-- ==== Sys2Proof/Word.lean ====
section
/-! DEFINITION. The widths and index types the manual counts with (00 sections 0.3 and 0.6). -/
namespace Sys2Proof

/-- One byte of shared memory. -/
abbrev Byte := BitVec 8

/-- A bank, 0 to 3; BSn, CCn and the entries nA, nB serve bank n. -/
abbrev Bank := Fin 4

/-- A submission ring, SQ0 to SQ3. -/
abbrev Ring := Fin 4

/-- A schedule entry, 0 to 7. -/
abbrev Entry := Fin 8

/-- A channel of a bank, 0 to 15. -/
abbrev Channel := Fin 16

/-- A time-base value in microseconds; differences are taken mod 2^32 (00 section 0.6.4). -/
abbrev Time := BitVec 32

/-- A free-running ring index; differences are taken mod 65,536 (00 section 0.6.3). -/
abbrev Index := BitVec 16

/-- An address of the 64-bit memory port (12 section 12.4). -/
abbrev Addr := BitVec 64

/-- The bytes a bus transaction carries, lowest address first. -/
abbrev Bytes := List Byte

end Sys2Proof
end

