-- ==== Sys2Proof/Syntax.lean ====
section
/-! DEFINITION. The commands: one constructor per row of spec/opcode_table.json. -/
namespace Sys2Proof

/-- The answer to a bus read: 64 bytes with OKAY, or a bus error (00 section 0.4). -/
inductive ReadAnswer where
  | okay (bytes : Bytes)
  | busError
  deriving DecidableEq, Repr

/-- The answer to a bus write: OKAY, or a bus error (00 section 0.4). -/
inductive WriteAnswer where
  | okay
  | busError
  deriving DecidableEq, Repr

/-- One command of the block: an event, a register write, an answer of the bus, a tick or a pin. -/
inductive Instr where
  /-- 01:R6. The settle delay of bank `b`'s cell has expired. -/
  | settleDelayExpiry (b : Bank)
  /-- 01:R7. The first oscillator edge in AWAIT_EDGE. -/
  | firstEdge (b : Bank)
  /-- 01:R7. The 2 ms edge wait has expired. -/
  | startTimeout (b : Bank)
  /-- 01:R9. The edge that brings the reference cycle counter to 0. -/
  | refDone (b : Bank)
  /-- 01:R10. The gate timer has reached 16,777,215 in REF_WINDOW. -/
  | refTimeout (b : Bank)
  /-- 01:R12. The gate timer has reached 0 in SENSE_WINDOW. -/
  | senseWindowClose (b : Bank)
  /-- 01:R13. A sensor edge with the sensor counter full. -/
  | overflow (b : Bank)
  /-- 03:R46. The admission arbiter of bank `b` grants. -/
  | admission (b : Bank)
  /-- 03:R54. The idle sequencer of bank `b` takes a MEASURE on an enabled bank. -/
  | measure (b : Bank)
  /-- 03:R49. The idle sequencer of bank `b` takes a SET_BANK. -/
  | setBank (b : Bank)
  /-- 05:R86. The settle time of the supply monitor has passed. -/
  | supplySettleEnd
  /-- 05:R89. In WATCHING, AVDD falls below the threshold: it moves to `mv` millivolts (log 5). -/
  | lowTransition (mv : Nat)
  /-- 05:R83. AVDD rises above the threshold plus 0.05 V: it moves to `mv` millivolts (log 5). -/
  | comparatorReadsHigh (mv : Nat)
  /-- 04:R69. A write to BANK_ABORT. -/
  | bankAbort (value : BitVec 32)
  /-- 06:R95. A write to SUBMIT. -/
  | submit (value : BitVec 32)
  /-- 06:R98. The fetch arbiter issues a ring read. -/
  | ringReadIssue
  /-- 06:R99. The answer to the ring read in flight. -/
  | ringReadAnswer (answer : ReadAnswer)
  /-- 02:R34. The INVALIDATE_REF staged in ring `n` is carried out. -/
  | invalidateRef (n : Ring)
  /-- 02:R39. The REPORT_REFS staged in ring `n` is carried out. -/
  | reportRefs (n : Ring)
  /-- 05:R90. The SET_SUPPLY staged in ring `n` is carried out. -/
  | setSupply (n : Ring)
  /-- 09:R140. The SET_SCHEDULE staged in ring `n` is carried out. -/
  | setSchedule (n : Ring)
  /-- 09:R148. The CLEAR_SCHEDULE staged in ring `n` is carried out. -/
  | clearSchedule (n : Ring)
  /-- 06:R110. The FENCE staged in ring `n` is taken. -/
  | fence (n : Ring)
  /-- 06:R113. The answer to the oldest status-area write in flight. -/
  | statusWriteAnswer (answer : WriteAnswer)
  /-- 09:R144. The fetch arbiter issues a template read. -/
  | templateReadIssue
  /-- 09:R145. The answer to the template read in flight. -/
  | templateReadAnswer (answer : ReadAnswer)
  /-- 09:R143. The time base has reached entry `e`'s next_expiry. -/
  | scheduleExpiry (e : Entry)
  /-- 08:R126. The completion writer grants a requester. -/
  | cqGrant
  /-- 08:R129. The answer to the `k`-th following-slot write in flight, 0 the oldest. -/
  | followingSlotWriteAnswer (k : Nat) (answer : WriteAnswer)
  /-- 08:R130. The answer to the header write in flight. -/
  | headerWriteAnswer (answer : WriteAnswer)
  /-- 08:R134. A write to CQ_HEAD. -/
  | cqHead (value : BitVec 32)
  /-- 10:R152. A write to CONTROL with SOFT_RESET 0 and the given ENABLE bit. -/
  | enable (on : Bool)
  /-- 10:R162. A write to CONTROL with SOFT_RESET 1 and the given ENABLE bit. -/
  | softReset (on : Bool)
  /-- 10:R156. A write to SETUP_ADDR_LO. -/
  | setupAddrLo (value : BitVec 32)
  /-- 10:R156. A write to SETUP_ADDR_HI. -/
  | setupAddrHi (value : BitVec 32)
  /-- 10:R153. The answer to the setup read in flight. -/
  | setupReadAnswer (answer : ReadAnswer)
  /-- 10:R158. Every block has reported that it is drained. -/
  | drainComplete
  /-- 10:R163. The last bus answer in RESETTING has been received. -/
  | softResetComplete
  /-- 10:R163. RESET_N is asserted. -/
  | resetNAsserted
  /-- 11:R169. RESET_N is released. -/
  | resetNReleased
  /-- 11:R165. A write to EVENT_CAUSE. -/
  | eventCause (value : BitVec 32)
  /-- 11:R166. A write to EVENT_MASK. -/
  | eventMask (value : BitVec 32)
  /-- 12:R171. A write access at the register port with its offset, byte lanes and value. -/
  | registerWriteIgnored (offset : BitVec 6) (lanes : BitVec 4) (value : BitVec 32)
  /-- 01:R8. An oscillator edge that is counted and does not end its window. -/
  | countedEdge (b : Bank)
  /-- 11:R169. One tick of the 32 MHz conversion clock. -/
  | conversionClockTick
  /-- 05:R83. In SETTLING, AVDD falls below the threshold: it moves to `mv` millivolts (log 5). -/
  | comparatorReadsLow (mv : Nat)
  deriving DecidableEq, Repr

end Sys2Proof
end

