-- ==== Sys2Proof/Decode.lean ====
section
/-! DEFINITION. The command that a word spells by the bits of spec/opcode_table.json. No row of this
table gives a bit ("fields" is empty in all 46 rows, and the table has no "fixed"): log 18. -/
namespace Sys2Proof

/-- No row of the opcode table gives bits, so no word spells a command (log 18). -/
def decodeTableWord (_nbits _w : Nat) : Option Instr := none

end Sys2Proof
end

