-- ==== Sys2Proof/Config.lean ====
section
/-! DEFINITION. What one implementation fixes, and the free values: constants without a body, so that
no proof can rest on a number the manual does not give. -/
namespace Sys2Proof

/-- IDENT bits 23 to 16: "revision, 0x52 for the part this manual describes" (12:R172). Log 22. -/
def Config.revision : BitVec 8 := 0x52

/-- Free value (log 6): at the n-th draw, whether a message, a grant or a supply-low notice of the supply monitor or the
releases that end a MEASURE, is taken now or stays in flight. "either may be taken first" (02:R24; 02:R30, 02:R37,
02:R38, 04:R70, 04:R73, 05:R89). -/
opaque Config.arrivesNow : Nat → Bool

/-- Free value (log 11): the address used where the sum of a base and an offset does not fit in the 64
bits of the memory port. 06:R98 and 08:R129 give the sum and not its width. -/
opaque Config.addressBeyond : Nat → Addr

end Sys2Proof
end

