-- ==== Sys2Proof/Machine/State.lean ====
section
/-! DEFINITION. The state of the controller: every piece of state the manual gives each block (00 section 0.3),
the host port's transactions in flight, the pins, and the queue of waiting commands. Plain data. -/
namespace Sys2Proof.Machine

/-! ### Converter cells (chapter 1) -/

/-- Reference A or B of a bank (00 section 0.6.1). -/
inductive Ref where
  | a
  | b
  deriving DecidableEq, Repr

/-- 01:R1. -/
inductive CellState where
  | stopped
  | settling
  | awaitEdge
  | refWindow
  | senseWindow
  deriving DecidableEq, Repr

/-- The pin connected to the oscillator (01:R1, 01:R2). -/
inductive Mux where
  | none
  | channel (c : Channel)
  | ref (r : Ref)
  deriving DecidableEq, Repr

/-- 01:R1. -/
inductive WindowKind where
  | reference
  | sense
  deriving DecidableEq, Repr

/-- A converter cell, CC0 to CC3 (01:R1). -/
structure Cell where
  state : CellState
  mux : Mux
  kind : WindowKind
  param : BitVec 24
  settleCount : Nat
  gateTimer : BitVec 24
  refCounter : BitVec 16
  sensorCounter : BitVec 24
  deriving DecidableEq, Repr

/-- The reset values of 01:R1. -/
def Cell.reset : Cell :=
  { state := .stopped, mux := .none, kind := .reference, param := 0, settleCount := 0,
    gateTimer := 0, refCounter := 0, sensorCounter := 0 }

/-! ### Time base (chapter 11) -/

/-- The time base (11:R169). `prescaler` counts the ticks since the counter last stepped (log 12). -/
structure TimeBase where
  micros : Time
  prescaler : Nat
  deriving DecidableEq, Repr

/-- The reset values of 11:R169 and log 12. -/
def TimeBase.reset : TimeBase := { micros := 0, prescaler := 0 }

/-! ### Reference table (chapter 2) -/

/-- 02:R22, 02:R23. -/
inductive RefState where
  | empty
  | converting
  | valid
  | stale
  | revoked
  deriving DecidableEq, Repr

/-- One reference entry (02:R22). -/
structure RefEntry where
  state : RefState
  leased : Bool
  revokePending : Bool
  supplyRevoke : Bool
  gate : BitVec 24
  nRef : BitVec 16
  generation : BitVec 16
  publishedAt : Time
  deriving DecidableEq, Repr

/-- The reset values of 02:R22. -/
def RefEntry.reset : RefEntry :=
  { state := .empty, leased := false, revokePending := false, supplyRevoke := false,
    gate := 0, nRef := 0, generation := 0, publishedAt := 0 }

/-- The two entries of one bank (02 section 2.1). `noticeDue` is the model's own: a supply-low notice for the bank has
been sent and the table has not taken it yet (log 6). -/
structure RefPair where
  entryA : RefEntry
  entryB : RefEntry
  noticeDue : Bool
  deriving DecidableEq, Repr

/-- The reset values of 02:R22; no notice is in flight (log 6). -/
def RefPair.reset : RefPair := { entryA := .reset, entryB := .reset, noticeDue := false }

/-! ### Records (chapter 7) -/

/-- Where a descriptor came from (03:R44). -/
inductive Source where
  | ring (n : Ring)
  | schedule (e : Entry)
  deriving DecidableEq, Repr

/-- 07 section 7.4.2. -/
inductive RecordStatus where
  | success
  | partialResult
  | refFailed
  | aborted
  | flushed
  | bankDisabled
  | badDescriptor
  | fetchError
  | templateError
  | entryBusy
  deriving DecidableEq, Repr

/-- 07 section 7.2.1, header byte 3. In a context only the last five are used, as set so far (03:R50). -/
structure RecordFlags where
  notify : Bool
  refConverted : Bool
  refRevoked : Bool
  limitHit : Bool
  supplyLowSeen : Bool
  saturated : Bool
  deriving DecidableEq, Repr

/-- All flags clear. -/
def RecordFlags.clear : RecordFlags :=
  { notify := false, refConverted := false, refRevoked := false, limitHit := false,
    supplyLowSeen := false, saturated := false }

/-- 07 section 7.4.3. -/
inductive ChannelStatus where
  | ok
  | partialResult
  | openCircuit
  | overflow
  | supplyLow
  | aborted
  | notRun
  deriving DecidableEq, Repr

/-- 07 section 7.4.4. -/
inductive LimitResult where
  | none
  | inside
  | below
  | above
  deriving DecidableEq, Repr

/-- 07 section 7.4.5. -/
inductive FailureReason where
  | none
  | timeout
  | supplyLow
  deriving DecidableEq, Repr

/-- A channel entry of a MEASURE record (03:R61, 07 section 7.2.2). -/
structure ChannelEntry where
  channel : Channel
  status : ChannelStatus
  good : Nat
  rejected : Nat
  limit : LimitResult
  sum : Nat
  ratio : Nat
  deriving DecidableEq, Repr

/-- A snapshot entry of a REPORT_REFS record (02:R39, 07 section 7.2.3). -/
structure SnapEntry where
  state : RefState
  leased : Bool
  generation : BitVec 16
  gate : BitVec 24
  nRef : BitVec 16
  age : Nat
  bank : Bank
  ref : Ref
  deriving DecidableEq, Repr

/-- A completion record before its slots are written (07 section 7.2). `kind` is the kind byte as read. -/
structure Record where
  slotCount : Nat
  kind : Byte
  status : RecordStatus
  flags : RecordFlags
  tag : BitVec 16
  source : Source
  bank : Bank
  ref : Ref
  gate : BitVec 24
  nRef : BitVec 16
  generation : BitVec 16
  startTime : Time
  endTime : Time
  detail : BitVec 32
  channels : List ChannelEntry
  snapshot : List SnapEntry
  deriving DecidableEq, Repr

/-! ### Bank queues and sequencers (chapter 3) -/

/-- A queue entry (03:R44). -/
structure QueueEntry where
  desc : Bytes
  source : Source
  flushed : Bool
  deriving DecidableEq, Repr

/-- 03:R50; the codes are in 07 section 7.4.7. -/
inductive SeqState where
  | idle
  | starting
  | reference
  | measuring
  | posting
  deriving DecidableEq, Repr

/-- The hold field of a context (03:R50). -/
inductive HoldState where
  | none
  | requested
  | granted
  deriving DecidableEq, Repr

/-- The values copied at a lease (02:R28). -/
structure Lease where
  gate : BitVec 24
  nRef : BitVec 16
  generation : BitVec 16
  deriving DecidableEq, Repr

/-- The result accumulator (01:R18). -/
structure Accumulator where
  good : Nat
  rejected : Nat
  sum : Nat
  deriving DecidableEq, Repr

/-- "All three are set to 0 when the bank sequencer begins a channel entry" (01:R18). -/
def Accumulator.zero : Accumulator := { good := 0, rejected := 0, sum := 0 }

/-- The rejection outcomes of 03:R60. -/
inductive Rejection where
  | openCircuit
  | overflow
  | supplyLow
  deriving DecidableEq, Repr

/-- How an active MEASURE ends: after its last channel (03:R63), or by a failed conversion (03:R58). -/
inductive MeasureEnd where
  | complete
  | failed (reason : FailureReason)
  deriving DecidableEq, Repr

/-- The active descriptor context (03:R50). `endDue` is the model's own: the end that the last outcome has brought and
that is still in flight (log 6). -/
structure Context where
  startTime : Time
  lease : Option Lease
  leaseHeld : Bool
  hold : HoldState
  supplyFailures : Nat
  entryPos : Nat
  sampleNo : Nat
  acc : Accumulator
  firstRejection : Option Rejection
  results : List ChannelEntry
  flags : RecordFlags
  record : Option Record
  endDue : Option MeasureEnd
  deriving DecidableEq, Repr

/-- A bank sequencer with its queue and the bank's parameters (03:R43, 03:R45, 03:R48, 03:R50). -/
structure BankSeq where
  queue : List QueueEntry
  seq : SeqState
  context : Option Context
  enabled : Bool
  lifetime : BitVec 16
  lastAdmitted : Ring
  deriving DecidableEq, Repr

/-- The reset values of 03:R43, 03:R45, 03:R48 and 03:R50. -/
def BankSeq.reset : BankSeq :=
  { queue := [], seq := .idle, context := none, enabled := true, lifetime := 1000, lastAdmitted := 3 }

/-! ### Supply monitor (chapter 5) -/

/-- 05:R82. -/
inductive MonitorState where
  | off
  | settling
  | watching
  deriving DecidableEq, Repr

/-- The comparator's reading while it is powered (05:R83). -/
inductive Reading where
  | high
  | low
  deriving DecidableEq, Repr

/-- 05:R84. -/
inductive HolderStatus where
  | waiting
  | granted
  deriving DecidableEq, Repr

/-- A holder of the hold set (05:R84); its bank is its place in the set. -/
structure Holder where
  status : HolderStatus
  lowSeen : Bool
  deriving DecidableEq, Repr

/-- A threshold level and a settle time (05:R82). -/
structure SupplyParams where
  level : Nat
  settleTime : Nat
  deriving DecidableEq, Repr

/-- The supply monitor (05:R82, 05:R83). `holders` is the hold set: a bank appears at most once. -/
structure SupplyMonitor where
  state : MonitorState
  level : Nat
  settleTime : Nat
  settleTimer : Nat
  holders : Vector (Option Holder) 4
  pendingParams : Option SupplyParams
  reading : Option Reading
  deriving DecidableEq, Repr

/-- The reset values of 05:R82. "In OFF the comparator has no reading" (05:R83). -/
def SupplyMonitor.reset : SupplyMonitor :=
  { state := .off, level := 3, settleTime := 4, settleTimer := 0, holders := .replicate 4 none,
    pendingParams := none, reading := none }

/-! ### Fetch unit (chapter 6) -/

/-- 06:R93; the codes are in 07 section 7.4.7. -/
inductive RingState where
  | disabled
  | idle
  | fetching
  | staged
  | blocked
  | posting
  | fenced
  | error
  deriving DecidableEq, Repr

/-- A submission ring of the ring table (06:R92). `stagedAt` is the time of staging of 06:R106 and
`fenceCount` the count recorded for a FENCE (06:R110); their reset values are log 12. -/
structure SubRing where
  base : Addr
  size : Nat
  tail : Index
  consumed : Index
  state : RingState
  staging : Option Bytes
  outstanding : Nat
  stagedAt : Time
  fenceCount : Nat
  deriving DecidableEq, Repr

/-- The reset values of 06:R92. -/
def SubRing.reset : SubRing :=
  { base := 0, size := 0, tail := 0, consumed := 0, state := .disabled, staging := none,
    outstanding := 0, stagedAt := 0, fenceCount := 0 }

/-- The fetch unit as a whole (06:R92), with the status area address of the setup block (06:R112). -/
structure FetchUnit where
  lastFetched : Ring
  posting : List Record
  statusAddr : Addr
  deriving DecidableEq, Repr

/-- The reset values of 06:R92; the status area address is log 12. -/
def FetchUnit.reset : FetchUnit := { lastFetched := 3, posting := [], statusAddr := 0 }

/-! ### Completion writer (chapter 8) -/

/-- The five requesters (08:R125). -/
inductive Requester where
  | bs (b : Bank)
  | fu
  deriving DecidableEq, Repr

/-- 08:R125. -/
inductive Grant where
  | none
  | stalled
  | writing
  | header
  deriving DecidableEq, Repr

/-- The granted record (08:R123). -/
structure Granted where
  requester : Requester
  record : Record
  deriving DecidableEq, Repr

/-- The completion writer (08:R123). -/
structure CompletionWriter where
  base : Addr
  size : Nat
  tail : Index
  head : Index
  phase : Bool
  pointer : Requester
  grant : Grant
  granted : Option Granted
  deriving DecidableEq, Repr

/-- The reset values of 08:R123. -/
def CompletionWriter.reset : CompletionWriter :=
  { base := 0, size := 0, tail := 0, head := 0, phase := true, pointer := .bs 0, grant := .none,
    granted := none }

/-! ### Scan scheduler (chapter 9) -/

/-- 09:R138, 09:R139; the codes are in 07 section 7.4.7. -/
inductive SchedState where
  | free
  | armed
  | fetching
  | ready
  | outstanding
  | clearing
  deriving DecidableEq, Repr

/-- 09:R138. -/
inductive FetchPhase where
  | requested
  | reading
  deriving DecidableEq, Repr

/-- 09:R138. -/
inductive Ending where
  | normal
  | error
  deriving DecidableEq, Repr

/-- A schedule entry (09:R138). -/
structure SchedEntry where
  state : SchedState
  template : Addr
  periodMs : BitVec 16
  nextExpiry : Time
  skipped : Nat
  phase : FetchPhase
  ending : Ending
  held : Option Bytes
  deriving DecidableEq, Repr

/-- The reset values of 09:R138. -/
def SchedEntry.reset : SchedEntry :=
  { state := .free, template := 0, periodMs := 0, nextExpiry := 0, skipped := 0,
    phase := .requested, ending := .normal, held := none }

/-! ### Control unit, event unit, time base, host port (chapters 10, 11, 0) -/

/-- 10:R151. -/
inductive ControllerState where
  | off
  | loading
  | running
  | stopping
  | stopped
  | faulted
  | resetting
  deriving DecidableEq, Repr

/-- The return state of 10:R151. -/
inductive ReturnState where
  | off
  | stopped
  deriving DecidableEq, Repr

/-- The fault codes of 10:R151. -/
inductive FaultCode where
  | none
  | setupReadError
  | setupInvalid
  | statusWriteError
  | cqWriteError
  deriving DecidableEq, Repr

/-- The control unit (10:R151). -/
structure ControlUnit where
  state : ControllerState
  enable : Bool
  returnState : ReturnState
  loadAbandoned : Bool
  setupAddr : Addr
  faultCode : FaultCode
  faultAddr : BitVec 16
  subsequent : Nat
  deriving DecidableEq, Repr

/-- The reset values of 10:R151. -/
def ControlUnit.reset : ControlUnit :=
  { state := .off, enable := false, returnState := .off, loadAbandoned := false, setupAddr := 0,
    faultCode := .none, faultAddr := 0, subsequent := 0 }

/-- The cause flags and the mask (11:R164, 11:R166), bit positions of 12 section 12.1.1. -/
structure EventUnit where
  cause : BitVec 9
  mask : BitVec 9
  deriving DecidableEq, Repr

/-- The reset values of 11:R164 and 11:R166. -/
def EventUnit.reset : EventUnit := { cause := 0, mask := 0 }

/-- The descriptor read in flight: "The host port has one descriptor read in flight at a time" (06 section 6.3.1). -/
inductive BusRead where
  | ring (n : Ring) (addr : Addr)
  | template (e : Entry) (addr : Addr)
  deriving DecidableEq, Repr

/-- What a posted write writes: the status area (06:R112), a following slot or a header (08:R129). -/
inductive WriteKind where
  | status
  | following
  | header
  deriving DecidableEq, Repr

/-- A posted write in flight, with the bytes it carries. -/
structure BusWrite where
  kind : WriteKind
  addr : Addr
  bytes : Bytes
  deriving DecidableEq, Repr

/-- The master side of the host port: its transactions in flight (10:R158), writes in issue order. -/
structure HostPort where
  read : Option BusRead
  setupRead : Option Addr
  writes : List BusWrite
  deriving DecidableEq, Repr

/-- Nothing in flight (10:R163). -/
def HostPort.reset : HostPort := { read := none, setupRead := none, writes := [] }

/-- The whole controller, its pins, and the commands that wait. -/
structure State where
  /-- The control unit. -/
  cu : ControlUnit
  /-- The submission rings SQ0 to SQ3 of the ring table. -/
  rings : Vector SubRing 4
  /-- The rest of the fetch unit. -/
  fu : FetchUnit
  /-- The bank sequencers BS0 to BS3 with their queues and parameters. -/
  banks : Vector BankSeq 4
  /-- The converter cells CC0 to CC3. -/
  cells : Vector Cell 4
  /-- The reference table, two entries a bank. -/
  refs : Vector RefPair 4
  /-- The supply monitor. -/
  sm : SupplyMonitor
  /-- The schedule table. -/
  sched : Vector SchedEntry 8
  /-- The completion writer. -/
  cw : CompletionWriter
  /-- The event unit. -/
  eu : EventUnit
  /-- The time base. -/
  tb : TimeBase
  /-- The host port's transactions in flight. -/
  hp : HostPort
  /-- The pin AVDD, in millivolts (log 5). -/
  avdd : Nat
  /-- The pin RESET_N is asserted (log 16). -/
  resetAsserted : Bool
  /-- The model's own: how many free values of log 6 have been drawn. -/
  draws : Nat
  /-- The model's own: the commands that wait, first in first out. -/
  pending : List Instr
  deriving DecidableEq, Repr

/-- The machine after reset (10:R163): every block at its reset values. AVDD at 3300 mV (log 5), RESET_N
released, no free value drawn (log 6), no command waiting. -/
def State.reset : State :=
  { cu := .reset, rings := .replicate 4 .reset, fu := .reset, banks := .replicate 4 .reset,
    cells := .replicate 4 .reset, refs := .replicate 4 .reset,
    sm := .reset, sched := .replicate 8 .reset, cw := .reset, eu := .reset, tb := .reset,
    hp := .reset, avdd := 3300, resetAsserted := false, draws := 0, pending := [] }

/-- Why the machine stops with a fault. No constructor: no command stops this block. A fatal fault of
chapter 10 is a state of the controller (FAULTED), not a stop. Safe. -/
inductive Fault where
  deriving DecidableEq, Repr

/-- Why a command is refused. -/
inductive Refusal where
  /-- Raised only by an arm of `exec` whose command has no meaning yet; safe. No arm raises it now. -/
  | notModelled (mnemonic : String)
  deriving DecidableEq, Repr

end Sys2Proof.Machine
end

