-- ==== Sys2Proof/Machine/Ops.lean ====
section
/-! DEFINITION. The named operations over the state: one getter and one setter per numbered block, the raising of a
cause, the host port's transactions, and the guard of RESET_N. -/
namespace Sys2Proof.Machine

open Sys2Proof

/-! ### The numbered blocks -/

/-- Every element of a numbered group changed by `f`. -/
def mapAll {α β : Type} {n : Nat} (f : α → β) (v : Vector α n) : Vector β n := Vector.ofFn fun i => f v[i]

/-- Every element of a numbered group passes `p`. -/
def allPass {α : Type} {n : Nat} (p : α → Bool) (v : Vector α n) : Bool :=
  (List.finRange n).all fun i => p v[i]

/-- Submission ring SQn. -/
def State.ring (s : State) (n : Ring) : SubRing := s.rings[n]

/-- `s` with submission ring SQn set. -/
def State.setRing (s : State) (n : Ring) (r : SubRing) : State := { s with rings := s.rings.set n r }

/-- Bank sequencer BSb with its queue and parameters. -/
def State.bank (s : State) (b : Bank) : BankSeq := s.banks[b]

/-- `s` with bank sequencer BSb set. -/
def State.setBank (s : State) (b : Bank) (x : BankSeq) : State := { s with banks := s.banks.set b x }

/-- Converter cell CCb. -/
def State.cell (s : State) (b : Bank) : Cell := s.cells[b]

/-- `s` with converter cell CCb set. -/
def State.setCell (s : State) (b : Bank) (c : Cell) : State := { s with cells := s.cells.set b c }

/-- One entry of a bank's pair. -/
def RefPair.entry (p : RefPair) : Ref → RefEntry
  | .a => p.entryA
  | .b => p.entryB

/-- A pair with one entry set. -/
def RefPair.setEntry (p : RefPair) (r : Ref) (e : RefEntry) : RefPair :=
  match r with
  | .a => { p with entryA := e }
  | .b => { p with entryB := e }

/-- The reference entry of bank `b` and reference `r`. -/
def State.ref (s : State) (b : Bank) (r : Ref) : RefEntry := s.refs[b].entry r

/-- `s` with the reference entry of bank `b` and reference `r` set. -/
def State.setRef (s : State) (b : Bank) (r : Ref) (e : RefEntry) : State :=
  { s with refs := s.refs.set b (s.refs[b].setEntry r e) }

/-- Schedule entry `e`. -/
def State.entry (s : State) (e : Entry) : SchedEntry := s.sched[e]

/-- `s` with schedule entry `e` set. -/
def State.setEntry (s : State) (e : Entry) (x : SchedEntry) : State := { s with sched := s.sched.set e x }

/-- The hold set's holder of bank `b`, if it has one (05:R84). -/
def State.holder (s : State) (b : Bank) : Option Holder := s.sm.holders[b]

/-- `s` with bank `b`'s place in the hold set. -/
def State.setHolder (s : State) (b : Bank) (h : Option Holder) : State :=
  { s with sm := { s.sm with holders := s.sm.holders.set b h } }

/-- `s` with its controller state set, nothing else. -/
def State.setControl (s : State) (c : ControllerState) : State := { s with cu := { s.cu with state := c } }

/-- The value of the time base (11:R169). -/
def State.now (s : State) : Time := s.tb.micros

/-! ### Contexts -/

/-- The active descriptor context of BSb, changed by `f` where there is one. -/
def State.mapContext (s : State) (b : Bank) (f : Context → Context) : State :=
  s.setBank b { s.bank b with context := (s.bank b).context.map f }

/-- `s` with BSb in sequencer state `q`. -/
def State.setSeq (s : State) (b : Bank) (q : SeqState) : State :=
  s.setBank b { s.bank b with seq := q }

/-- The descriptor of BSb's queue head: "its active descriptor is always its head entry" (03:R43). -/
def State.headDesc (s : State) (b : Bank) : Bytes :=
  match (s.bank b).queue with
  | [] => []
  | e :: _ => e.desc

/-- The source of BSb's queue head. -/
def State.headSource (s : State) (b : Bank) : Source :=
  match (s.bank b).queue with
  | [] => .ring 0
  | e :: _ => e.source

/-! ### Life-cycle tests -/

/-- The controller is RUNNING or STOPPING: the states in which work is admitted, carried out and posted
(03:R45, 08:R126, 02:R24). -/
def State.working (s : State) : Bool := s.cu.state == .running || s.cu.state == .stopping

/-- While RESET_N is held asserted "the controller stays in these values" (10:R163, 12:R174): `f` acts only with
RESET_N released. -/
def whenReleased (f : State → State) (s : State) : State := if s.resetAsserted then s else f s

/-! ### Addresses -/

/-- An address sum on the 64-bit memory port. A sum that does not fit is log 11's free value. -/
def addressSum (base : Addr) (offset : Nat) : Addr :=
  if base.toNat + offset < 2 ^ 64 then base + BitVec.ofNat 64 offset
  else Config.addressBeyond (base.toNat + offset)

/-! ### Bytes -/

/-- The `n` low bytes of `x`, lowest first: "All multi-byte quantities in shared memory are little-endian"
(00 section 0.6.2). -/
def leBytes {w : Nat} : Nat → BitVec w → Bytes
  | 0, _ => []
  | n + 1, x => x.setWidth 8 :: leBytes n (x >>> 8)

/-! ### The host port -/

/-- The number of bus transactions in flight (00 section 0.3). -/
def HostPort.inFlight (h : HostPort) : Nat :=
  (if h.read.isSome then 1 else 0) + (if h.setupRead.isSome then 1 else 0) + h.writes.length

/-- A posted write is issued behind those already in flight (06:R112, 08:R129). -/
def State.issueWrite (s : State) (w : BusWrite) : State :=
  { s with hp := { s.hp with writes := s.hp.writes ++ [w] } }

/-- The `k`-th write of a kind in a list of writes, 0 the oldest, and the list without it. -/
def takeWrite (kind : WriteKind) : Nat → List BusWrite → Option (BusWrite × List BusWrite)
  | _, [] => none
  | k, w :: ws =>
    if w.kind = kind then
      match k with
      | 0 => some (w, ws)
      | k + 1 => (takeWrite kind k ws).map fun p => (p.1, w :: p.2)
    else (takeWrite kind k ws).map fun p => (p.1, w :: p.2)

/-- `s` with the host port's writes in flight set. -/
def State.setWrites (s : State) (ws : List BusWrite) : State := { s with hp := { s.hp with writes := ws } }

/-- `s` with the descriptor read in flight set. -/
def State.setRead (s : State) (r : Option BusRead) : State := { s with hp := { s.hp with read := r } }

end Sys2Proof.Machine
end

