-- ==== Sys2Proof/Machine/Flags.lean ====
section
/-! DEFINITION. The cause flags, the mask and the notification line (chapter 11), and the flag byte of a record. -/
namespace Sys2Proof.Machine

/-- The nine causes (11:R164). -/
inductive Cause where
  | completion
  | limit
  | overrun
  | supplyLow
  | ringError
  | hostError
  | cqStall
  | stopped
  | fault
  deriving DecidableEq, Repr

/-- The bit of a cause in EVENT_CAUSE and EVENT_MASK, "in that order from bit 0" (12 section 12.1.1). -/
def Cause.bit : Cause → Nat
  | .completion => 0
  | .limit => 1
  | .overrun => 2
  | .supplyLow => 3
  | .ringError => 4
  | .hostError => 5
  | .cqStall => 6
  | .stopped => 7
  | .fault => 8

/-- The flag of a cause. -/
def EventUnit.flag (e : EventUnit) (c : Cause) : Bool := e.cause.getLsbD c.bit

/-- A cause flag is set, "whatever the event mask"; "An event that finds its flag already set leaves it set"
(11:R164). -/
def State.raise (s : State) (c : Cause) : State :=
  { s with eu := { s.eu with cause := s.eu.cause ||| (1 <<< c.bit) } }

/-- The cause is raised if the condition holds. -/
def State.raiseIf (s : State) (p : Bool) (c : Cause) : State := if p then s.raise c else s

/-- EVT_N is low: "asserted exactly when some cause flag is set whose mask bit is set" (11:R167). -/
def EventUnit.evtAsserted (e : EventUnit) : Bool := e.cause &&& e.mask != 0

/-- The level of the pin EVT_N: true is high (11:R167, 12:R174). -/
def State.evtN (s : State) : Bool := !s.eu.evtAsserted

/-- Header byte 3 (07 section 7.2.1). -/
def RecordFlags.byte (f : RecordFlags) : Byte :=
  (if f.notify then 1 else 0) ||| (if f.refConverted then 2 else 0) |||
  (if f.refRevoked then 4 else 0) ||| (if f.limitHit then 8 else 0) |||
  (if f.supplyLowSeen then 16 else 0) ||| (if f.saturated then 32 else 0)

end Sys2Proof.Machine
end

