-- ==== Sys2Proof/Machine/Operands.lean ====
section
/-! DEFINITION. The fields of descriptors, of the setup block and of register values (chapters 7 and 12), the
checks of 06:R101 and 10:R154, and the constants of time (chapters 1, 5 and 11). -/
namespace Sys2Proof.Machine

open Sys2Proof

/-! ### Constants of time -/

/-- CLK32 ticks to one microsecond (11:R169). -/
def ticksPerMicro : Nat := 32

/-- The start timeout, 2 ms (01:R7). -/
def startTimeoutTicks : Nat := 64000

/-- Ticks of one unit of 4 µs of settle delay (01:R4). -/
def settleUnitTicks : Nat := 128

/-- The gate timer's last value, 2^24 − 1 (01:R10). -/
def gateTimerMax : Nat := 16777215

/-- Microseconds of one unit of the monitor's settle time (05:R82). -/
def monitorSettleUnit : Nat := 100

/-- The threshold of a level in millivolts: 2.70 V + 0.10 V × level (05:R82). -/
def thresholdMv (level : Nat) : Nat := 2700 + 100 * level

/-- The hysteresis of the comparator, 0.05 V (05:R83). -/
def hysteresisMv : Nat := 50

/-- Milliseconds in microseconds of the time base, mod 2^32. -/
def msToMicros (ms : BitVec 16) : Time := BitVec.ofNat 32 (ms.toNat * 1000)

/-! ### Little-endian fields (00 section 0.6.2) -/

/-- The byte at offset `i`. -/
def byteAt (d : Bytes) (i : Nat) : Byte := d.getD i 0

/-- The 16-bit field at offset `i`. -/
def halfAt (d : Bytes) (i : Nat) : BitVec 16 := byteAt d (i + 1) ++ byteAt d i

/-- The 32-bit field at offset `i`. -/
def wordAt (d : Bytes) (i : Nat) : BitVec 32 := halfAt d (i + 2) ++ halfAt d i

/-- The 64-bit field at offset `i`. -/
def dwordAt (d : Bytes) (i : Nat) : BitVec 64 := wordAt d (i + 4) ++ wordAt d i

/-! ### Descriptors (07 section 7.1) -/

/-- The descriptor kinds (07 section 7.4.1). -/
inductive Kind where
  | measure
  | setBank
  | invalidateRef
  | reportRefs
  | setSupply
  | setSchedule
  | clearSchedule
  | fence
  deriving DecidableEq, Repr

/-- The code of a kind (07 section 7.4.1). -/
def Kind.code : Kind → Byte
  | .measure => 1
  | .setBank => 2
  | .invalidateRef => 3
  | .reportRefs => 4
  | .setSupply => 5
  | .setSchedule => 6
  | .clearSchedule => 7
  | .fence => 8

/-- The kind a kind byte names; "kind is 0 or greater than 8" names none (06:R101). -/
def kindOf (k : Byte) : Option Kind :=
  [Kind.measure, .setBank, .invalidateRef, .reportRefs, .setSupply, .setSchedule, .clearSchedule,
    .fence].find? fun x => x.code == k

/-- Byte 0. -/
def descKind (d : Bytes) : Byte := byteAt d 0

/-- Flags bit 0. -/
def descNotify (d : Bytes) : Bool := (byteAt d 1).getLsbD 0

/-- Flags bit 1. -/
def descForceRef (d : Bytes) : Bool := (byteAt d 1).getLsbD 1

/-- Flags bit 2. -/
def descLimits (d : Bytes) : Bool := (byteAt d 1).getLsbD 2

/-- Bytes 2 and 3. -/
def descTag (d : Bytes) : BitVec 16 := halfAt d 2

/-- Byte 4 of MEASURE, SET_BANK and INVALIDATE_REF, 0 to 3 by validation. -/
def descBank (d : Bytes) : Bank := Fin.ofNat 4 (byteAt d 4).toNat

/-- Byte 5 of MEASURE, 0 or 1 by validation. -/
def descRef (d : Bytes) : Ref := if byteAt d 5 = 0 then .a else .b

/-- Byte 6 of MEASURE. -/
def descSamples (d : Bytes) : Nat := (byteAt d 6).toNat

/-- Byte 7 of MEASURE, in units of 4 µs. -/
def descSettle (d : Bytes) : Nat := (byteAt d 7).toNat

/-- Bytes 8 and 9 of MEASURE. -/
def descNRef (d : Bytes) : BitVec 16 := halfAt d 8

/-- Byte 10 of MEASURE. -/
def descChannelCount (d : Bytes) : Nat := (byteAt d 10).toNat

/-- Bytes 12 to 15 of MEASURE. -/
def descLimitLow (d : Bytes) : BitVec 32 := wordAt d 12

/-- Bytes 16 to 19 of MEASURE. -/
def descLimitHigh (d : Bytes) : BitVec 32 := wordAt d 16

/-- Byte 20 + i of MEASURE: the channel of list position `i`, 0 to 15 by validation. -/
def descChannel (d : Bytes) (i : Nat) : Channel := Fin.ofNat 16 (byteAt d (20 + i)).toNat

/-- Byte 5 of SET_BANK: "0 when the byte is 0 and to 1 when it holds any other value" (03:R49). -/
def descEnabled (d : Bytes) : Bool := byteAt d 5 != 0

/-- Bytes 6 and 7 of SET_BANK. -/
def descLifetime (d : Bytes) : BitVec 16 := halfAt d 6

/-- Whether the ref mask of an INVALIDATE_REF names a reference: bit 0 names A, bit 1 names B. -/
def descNames (d : Bytes) : Ref → Bool
  | .a => (byteAt d 5).getLsbD 0
  | .b => (byteAt d 5).getLsbD 1

/-- Byte 4 of SET_SUPPLY. -/
def descLevel (d : Bytes) : Nat := (byteAt d 4).toNat

/-- Byte 5 of SET_SUPPLY. -/
def descSupplySettle (d : Bytes) : Nat := (byteAt d 5).toNat

/-- Byte 4 of SET_SCHEDULE and CLEAR_SCHEDULE, 0 to 7 by validation. -/
def descEntry (d : Bytes) : Entry := Fin.ofNat 8 (byteAt d 4).toNat

/-- Options bit 0 of SET_SCHEDULE. -/
def descReplace (d : Bytes) : Bool := (byteAt d 5).getLsbD 0

/-- Bytes 6 and 7 of SET_SCHEDULE. -/
def descPeriod (d : Bytes) : BitVec 16 := halfAt d 6

/-- Bytes 8 and 9 of SET_SCHEDULE. -/
def descFirstDelay (d : Bytes) : BitVec 16 := halfAt d 8

/-- Bytes 12 to 19 of SET_SCHEDULE. -/
def descTemplate (d : Bytes) : Addr := dwordAt d 12

/-! ### Validation (06:R101) -/

/-- The check codes of 06:R101, and 15 of 06:R100. -/
inductive CheckCode where
  | badKind
  | badBank
  | badRef
  | badChannelCount
  | badChannel
  | badSamples
  | badNRef
  | badLimits
  | badRefMask
  | badLevel
  | badSettle
  | badEntry
  | badPeriod
  | badTemplateAddr
  | templateBusError
  deriving DecidableEq, Repr

/-- 06:R101, 07 section 7.4.6. -/
def CheckCode.code : CheckCode → Byte
  | .badKind => 1
  | .badBank => 2
  | .badRef => 3
  | .badChannelCount => 4
  | .badChannel => 5
  | .badSamples => 6
  | .badNRef => 7
  | .badLimits => 8
  | .badRefMask => 9
  | .badLevel => 10
  | .badSettle => 11
  | .badEntry => 12
  | .badPeriod => 13
  | .badTemplateAddr => 14
  | .templateBusError => 15

/-- A failing check, with the list position for BAD_CHANNEL and 0 otherwise (07 section 7.4.8). -/
structure CheckFailure where
  code : CheckCode
  position : Nat
  deriving DecidableEq, Repr

/-- The first list position below channel_count whose channel is above 15 (06:R101). -/
def badChannelPosition (d : Bytes) : Option Nat :=
  (List.range (descChannelCount d)).find? fun i => 15 < (byteAt d (20 + i)).toNat

/-- The checks of the table of 06:R101, in its order, as (code, fails) pairs for a kind. -/
def kindChecks (d : Bytes) : Kind → List (CheckCode × Bool)
  | .measure =>
    [(.badBank, 3 < (byteAt d 4).toNat), (.badRef, 1 < (byteAt d 5).toNat),
      (.badChannelCount, descChannelCount d == 0 || decide (16 < descChannelCount d)),
      (.badChannel, (badChannelPosition d).isSome),
      (.badSamples, descSamples d == 0 || decide (8 < descSamples d)),
      (.badNRef, (descNRef d).toNat < 64),
      (.badLimits, descLimits d && decide ((descLimitHigh d).toNat < (descLimitLow d).toNat))]
  | .setBank => [(.badBank, 3 < (byteAt d 4).toNat)]
  | .invalidateRef =>
    [(.badBank, 3 < (byteAt d 4).toNat), (.badRefMask, !descNames d .a && !descNames d .b)]
  | .reportRefs => []
  | .setSupply =>
    [(.badLevel, 15 < descLevel d), (.badSettle, descSupplySettle d == 0 || decide (16 < descSupplySettle d))]
  | .setSchedule =>
    [(.badEntry, 7 < (byteAt d 4).toNat), (.badPeriod, descPeriod d == 0),
      (.badTemplateAddr, (descTemplate d).toNat % 64 != 0)]
  | .clearSchedule => [(.badEntry, 7 < (byteAt d 4).toNat)]
  | .fence => []

/-- The failure that a check code reports for a descriptor. -/
def failureOf (d : Bytes) (c : CheckCode) : CheckFailure :=
  { code := c, position := if c = .badChannel then (badChannelPosition d).getD 0 else 0 }

/-- "A staged descriptor is checked in the order of the table below, and the first failing check decides the
outcome" (06:R101). -/
def checkDescriptor (d : Bytes) : Option CheckFailure :=
  match kindOf (descKind d) with
  | none => some (failureOf d .badKind)
  | some k => ((kindChecks d k).find? fun c => c.2).map fun c => failureOf d c.1

/-- The result of a template read answered OKAY: BAD_KIND for a kind other than MEASURE, else the MEASURE
checks (06:R100). -/
def checkTemplate (d : Bytes) : Option CheckFailure :=
  if kindOf (descKind d) = some .measure then checkDescriptor d else some (failureOf d .badKind)

/-! ### The setup block (07 section 7.5.1) and its checks (10:R154) -/

/-- Bytes 0 to 7. -/
def setupCqBase (d : Bytes) : Addr := dwordAt d 0

/-- Byte 8. -/
def setupCqExponent (d : Bytes) : Nat := (byteAt d 8).toNat

/-- Byte 12 + n. -/
def setupSqExponent (d : Bytes) (n : Ring) : Nat := (byteAt d (12 + n.val)).toNat

/-- Bytes 16 + 8n to 23 + 8n. -/
def setupSqBase (d : Bytes) (n : Ring) : Addr := dwordAt d (16 + 8 * n.val)

/-- Bytes 48 to 55. -/
def setupStatusAddr (d : Bytes) : Addr := dwordAt d 48

/-- A size exponent of a configured ring, from 4 to 12. -/
def exponentConfigured (e : Nat) : Bool := decide (4 ≤ e ∧ e ≤ 12)

/-- The checks of 10:R154 in order, as (offset, fails) pairs. -/
def setupChecks (d : Bytes) : List (Nat × Bool) :=
  [(8, !exponentConfigured (setupCqExponent d)), (0, (setupCqBase d).toNat % 32 != 0)] ++
  (List.finRange 4).map (fun n =>
    (12 + n.val, setupSqExponent d n != 0 && !exponentConfigured (setupSqExponent d n))) ++
  [(12, (List.finRange 4).all fun n => setupSqExponent d n == 0)] ++
  (List.finRange 4).map (fun n =>
    (16 + 8 * n.val, exponentConfigured (setupSqExponent d n) && (setupSqBase d n).toNat % 64 != 0)) ++
  [(48, (setupStatusAddr d).toNat % 16 != 0)]

/-- The byte offset of the first failing check of an OKAY setup block (10:R154). -/
def setupFailure (d : Bytes) : Option Nat :=
  ((setupChecks d).find? fun c => c.2).map fun c => c.1

/-! ### Register values (12 section 12.1.1) -/

/-- SUBMIT bits 15 to 0. -/
def submitTail (v : BitVec 32) : Index := v.setWidth 16

/-- SUBMIT bits 17 and 16. -/
def submitRing (v : BitVec 32) : Ring := Fin.ofNat 4 (v >>> 16).toNat

/-- CQ_HEAD bits 15 to 0. -/
def cqHeadValue (v : BitVec 32) : Index := v.setWidth 16

/-- BANK_ABORT bit `b`. -/
def abortNames (v : BitVec 32) (b : Bank) : Bool := v.getLsbD b.val

/-- EVENT_CAUSE and EVENT_MASK bits 8 to 0. -/
def eventBits (v : BitVec 32) : BitVec 9 := v.setWidth 9

end Sys2Proof.Machine
end

