-- ==== Sys2Proof/Machine/Records.lean ====
section
/-! DEFINITION. Completion records: the code values, the sizes, the detail fields and the bytes of every slot
(chapter 7), and the fetch unit's common record (06:R106). -/
namespace Sys2Proof.Machine

open Sys2Proof

/-! ### Codes (07 section 7.4) -/

/-- 07 section 7.4.2. -/
def RecordStatus.code : RecordStatus → Byte
  | .success => 0
  | .partialResult => 1
  | .refFailed => 2
  | .aborted => 3
  | .flushed => 4
  | .bankDisabled => 5
  | .badDescriptor => 6
  | .fetchError => 7
  | .templateError => 8
  | .entryBusy => 9

/-- 07 section 7.4.3. -/
def ChannelStatus.code : ChannelStatus → Byte
  | .ok => 0
  | .partialResult => 1
  | .openCircuit => 2
  | .overflow => 3
  | .supplyLow => 4
  | .aborted => 5
  | .notRun => 6

/-- 07 section 7.4.4. -/
def LimitResult.code : LimitResult → Byte
  | .none => 0
  | .inside => 1
  | .below => 2
  | .above => 3

/-- 07 section 7.4.5. -/
def FailureReason.code : FailureReason → Byte
  | .none => 0
  | .timeout => 1
  | .supplyLow => 2

/-- The disposition codes of 07 section 7.4.5: APPLIED 1, DEFERRED 2. -/
def dispositionCode (applied : Bool) : Byte := if applied then 1 else 2

/-- 07 section 7.4.7, Reference entry. -/
def RefState.code : RefState → Byte
  | .empty => 0
  | .converting => 1
  | .valid => 2
  | .stale => 3
  | .revoked => 4

/-- 07 section 7.4.7, Schedule entry. -/
def SchedState.code : SchedState → Byte
  | .free => 0
  | .armed => 1
  | .fetching => 2
  | .ready => 3
  | .outstanding => 4
  | .clearing => 5

/-- 07 section 7.4.7, Ring. -/
def RingState.code : RingState → Byte
  | .disabled => 0
  | .idle => 1
  | .fetching => 2
  | .staged => 3
  | .blocked => 4
  | .posting => 5
  | .fenced => 6
  | .error => 7

/-- The source byte: 0 to 3 for rings, 8 to 15 for schedule entries (07 section 7.2.1). -/
def Source.byte : Source → Byte
  | .ring n => BitVec.ofNat 8 n.val
  | .schedule e => BitVec.ofNat 8 (8 + e.val)

/-- Header byte 7: the bank in bits 0 and 1, the ref in bit 4. -/
def bankRefByte (b : Bank) (r : Ref) : Byte :=
  BitVec.ofNat 8 b.val ||| (match r with | .a => 0 | .b => 16)

/-! ### Details (07 section 7.4.8) -/

/-- Detail bytes 24 to 27. -/
def detailBytes (b24 b25 b26 b27 : Byte) : BitVec 32 := b27 ++ b26 ++ b25 ++ b24

/-- MEASURE: the failure reason and the skipped count. -/
def measureDetail (reason : FailureReason) (skipped : Nat) : BitVec 32 :=
  detailBytes reason.code (BitVec.ofNat 8 skipped) 0 0

/-- SET_BANK: enabled and lifetime_ms. -/
def bankDetail (enabled : Bool) (lifetime : BitVec 16) : BitVec 32 :=
  detailBytes (if enabled then 1 else 0) 0 (lifetime.setWidth 8) ((lifetime >>> 8).setWidth 8)

/-- INVALIDATE_REF: one byte for an entry found, or 0xFF NOT_NAMED. -/
def invalidateByte (named : Bool) (e : RefEntry) : Byte :=
  if named then e.state.code ||| (if e.leased then 0x80 else 0) else 0xFF

/-- BAD_DESCRIPTOR and TEMPLATE_ERROR: the check code and the list position. -/
def checkDetail (f : CheckFailure) : BitVec 32 :=
  detailBytes f.code.code (BitVec.ofNat 8 f.position) 0 0

/-- FETCH_ERROR: the slot index read. -/
def slotDetail (slot : Nat) : BitVec 32 :=
  detailBytes (BitVec.ofNat 8 slot) (BitVec.ofNat 8 (slot / 256)) 0 0

/-! ### Sizes (07:R120) -/

/-- 1 + ceil(channel_count / 2). -/
def measureSlots (channelCount : Nat) : Nat := 1 + (channelCount + 1) / 2

/-! ### Slot bytes (07 section 7.2) -/

/-- The header slot but for byte 31 (07 section 7.2.1). Sources fill every byte (07:R119). -/
def headerBody (r : Record) : Bytes :=
  [BitVec.ofNat 8 r.slotCount, r.kind, r.status.code, r.flags.byte] ++ leBytes 2 r.tag ++
  [r.source.byte, bankRefByte r.bank r.ref] ++ leBytes 4 (r.gate.setWidth 32) ++ leBytes 2 r.nRef ++
  leBytes 2 r.generation ++ leBytes 4 r.startTime ++ leBytes 4 r.endTime ++ leBytes 4 r.detail ++ [0, 0, 0]

/-- A channel entry, 15 bytes (07 section 7.2.2). -/
def ChannelEntry.bytes (c : ChannelEntry) : Bytes :=
  [BitVec.ofNat 8 c.channel.val, c.status.code, BitVec.ofNat 8 c.good, BitVec.ofNat 8 c.rejected,
    c.limit.code] ++ leBytes 4 (BitVec.ofNat 32 c.sum) ++ leBytes 4 (BitVec.ofNat 32 c.ratio) ++ [0, 0]

/-- A snapshot entry, 15 bytes (07 section 7.2.3). -/
def SnapEntry.bytes (e : SnapEntry) : Bytes :=
  [e.state.code, if e.leased then 1 else 0] ++ leBytes 2 e.generation ++ leBytes 4 (e.gate.setWidth 32) ++
  leBytes 2 e.nRef ++ leBytes 2 (BitVec.ofNat 16 e.age) ++ [bankRefByte e.bank e.ref, 0, 0]

/-- Two entries of 15 bytes, the second "written 0 when the slot holds one entry", and the entries-used byte
(07 sections 7.2.2 and 7.2.3). -/
def pairBody (first second : Option Bytes) : Bytes :=
  first.getD (List.replicate 15 0) ++ second.getD (List.replicate 15 0) ++
  [(if first.isSome then 1 else 0) + (if second.isSome then 1 else 0)]

/-- The bytes of the entries that a record's following slots carry, in list order (07:R121). -/
def Record.entryBytes (r : Record) : List Bytes :=
  r.channels.map ChannelEntry.bytes ++ r.snapshot.map SnapEntry.bytes

/-- Byte 31 of every slot: the phase in bit 0. -/
def phaseByte (phase : Bool) : Byte := if phase then 1 else 0

/-- The 32 bytes of slot `j` of a record, 0 the header: "position i lies in channel slot floor(i / 2)"
(07:R121). -/
def Record.slotBytes (r : Record) (j : Nat) (phase : Bool) : Bytes :=
  match j with
  | 0 => headerBody r ++ [phaseByte phase]
  | j + 1 => pairBody r.entryBytes[2 * j]? r.entryBytes[2 * j + 1]? ++ [phaseByte phase]

/-! ### Common records -/

/-- The common values of a record of the fetch unit for a staged descriptor (06:R106): start and end time both
the time of staging, bank and ref 0, NOTIFY copied. -/
def fetchRecord (n : Ring) (d : Bytes) (stagedAt : Time) : Record :=
  { slotCount := 1, kind := descKind d, status := .success,
    flags := { RecordFlags.clear with notify := descNotify d },
    tag := descTag d, source := .ring n, bank := 0, ref := .a, gate := 0, nRef := 0, generation := 0,
    startTime := stagedAt, endTime := stagedAt, detail := 0, channels := [], snapshot := [] }

/-- The record of a descriptor that fails validation (06:R102). -/
def badDescriptorRecord (n : Ring) (d : Bytes) (stagedAt : Time) (f : CheckFailure) : Record :=
  { fetchRecord n d stagedAt with status := .badDescriptor, detail := checkDetail f }

/-- The record of a ring read answered with a bus error (06:R114). -/
def fetchErrorRecord (n : Ring) (slot : Nat) (now : Time) : Record :=
  { slotCount := 1, kind := 0, status := .fetchError, flags := .clear, tag := 0, source := .ring n,
    bank := 0, ref := .a, gate := 0, nRef := 0, generation := 0, startTime := now, endTime := now,
    detail := slotDetail slot, channels := [], snapshot := [] }

/-- The record of a template that could not be used (06:R100): "its NOTIFY flag is set". -/
def templateErrorRecord (e : Entry) (tag : BitVec 16) (f : CheckFailure) (now : Time) : Record :=
  { slotCount := 1, kind := Kind.measure.code, status := .templateError,
    flags := { RecordFlags.clear with notify := true }, tag := tag, source := .schedule e, bank := 0,
    ref := .a, gate := 0, nRef := 0, generation := 0, startTime := now, endTime := now,
    detail := checkDetail f, channels := [], snapshot := [] }

end Sys2Proof.Machine
end

