-- ==== Sys2Proof/Machine/Converter.lean ====
section
/-! DEFINITION. The converter cell (chapter 1): its commands, its clock tick, when its events are due, what its pins
do, and the arithmetic of a channel. -/
namespace Sys2Proof.Machine

open Sys2Proof

/-! ### Pins (tables of 01:R1, 01:R2) -/

/-- The oscillator is enabled in AWAIT_EDGE, REF_WINDOW and SENSE_WINDOW (01:R1). -/
def Cell.oscillatorEnabled (c : Cell) : Bool :=
  match c.state with
  | .stopped | .settling => false
  | .awaitEdge | .refWindow | .senseWindow => true

/-- "The capacitor is held at ground whenever the oscillator is disabled" (01 section 1.1). -/
def Cell.capacitorGrounded (c : Cell) : Bool := !c.oscillatorEnabled

/-! ### Commands of the bank sequencer -/

/-- SETTLING if the settle count is above 0, AWAIT_EDGE otherwise (01:R3). -/
def startState (settleCount : Nat) : CellState := if 0 < settleCount then .settling else .awaitEdge

/-- A start reference command (01:R3, 01:R4). "A start command that finds the cell in any state other than
STOPPED is not taken." -/
def Cell.startReference (c : Cell) (r : Ref) (nRef : BitVec 16) (settle : Nat) : Cell :=
  if c.state = .stopped then
    { c with
      state := startState (settle * settleUnitTicks), mux := .ref r, kind := .reference,
      param := nRef.setWidth 24, settleCount := settle * settleUnitTicks, gateTimer := 0 }
  else c

/-- The settle count of a start sample: 0 if the selection is already the channel (01:R5). -/
def Cell.sampleSettle (c : Cell) (ch : Channel) (settle : Nat) : Nat :=
  if c.mux = .channel ch then 0 else settle * settleUnitTicks

/-- A start sample command (01:R3, 01:R5). -/
def Cell.startSample (c : Cell) (ch : Channel) (g : BitVec 24) (settle : Nat) : Cell :=
  if c.state = .stopped then
    { c with
      state := startState (c.sampleSettle ch settle), mux := .channel ch, kind := .sense, param := g,
      settleCount := c.sampleSettle ch settle, gateTimer := 0 }
  else c

/-- A stop command (01:R16). -/
def Cell.stop (c : Cell) : Cell :=
  { c with state := .stopped, mux := .none, gateTimer := 0, refCounter := 0, sensorCounter := 0 }

/-! ### Windows -/

/-- What a cell reports at the end of a window (01:R15). -/
inductive Outcome where
  | refDone (gate : BitVec 24)
  | refTimeout
  | good (count : BitVec 24)
  | openCircuit (count : BitVec 24)
  | overflow
  deriving DecidableEq, Repr

/-- The window has ended: the oscillator is disabled "with the mux selection kept" (01:R9, 01:R10, 01:R12,
01:R13). -/
def Cell.endWindow (c : Cell) : Cell := { c with state := .stopped }

/-- The outcome of a sense window closed with a count: GOOD from 4 on (01:R12). -/
def senseOutcome (n : BitVec 24) : Outcome := if 4 ≤ n.toNat then .good n else .openCircuit n

/-- The first edge opens the window (01:R8, 01:R11). -/
def Cell.openWindow (c : Cell) : Cell :=
  match c.kind with
  | .reference => { c with state := .refWindow, gateTimer := 0, refCounter := c.param.setWidth 16 }
  | .sense => { c with state := .senseWindow, gateTimer := c.param, sensorCounter := 0 }

/-- The settle delay has expired (01:R6). -/
def Cell.expireSettle (c : Cell) : Cell := { c with state := .awaitEdge, gateTimer := 0 }

/-- An edge that is counted (01:R8, 01:R11). -/
def Cell.countEdge (c : Cell) : Cell :=
  match c.state with
  | .refWindow => { c with refCounter := c.refCounter - 1 }
  | .senseWindow => { c with sensorCounter := c.sensorCounter + 1 }
  | _ => c

/-- The last edge of a reference window (01:R9). -/
def Cell.finishReference (c : Cell) : Cell := { c with state := .stopped, refCounter := 0 }

/-! ### When an event of the cell can be taken -/

/-- SETTLING and the gate timer has reached the settle count (01:R6). -/
def Cell.settleDue (c : Cell) : Bool := c.state == .settling && decide (c.settleCount ≤ c.gateTimer.toNat)

/-- AWAIT_EDGE and the gate timer has reached 64,000 (01:R7). -/
def Cell.startTimeoutDue (c : Cell) : Bool :=
  c.state == .awaitEdge && decide (startTimeoutTicks ≤ c.gateTimer.toNat)

/-- REF_WINDOW and the gate timer has reached 16,777,215 (01:R10). -/
def Cell.refTimeoutDue (c : Cell) : Bool := c.state == .refWindow && c.gateTimer.toNat == gateTimerMax

/-- SENSE_WINDOW and the gate timer has reached 0 (01:R12). -/
def Cell.senseCloseDue (c : Cell) : Bool := c.state == .senseWindow && c.gateTimer.toNat == 0

/-- The next edge brings the reference cycle counter to 0, before the gate timer has reached its last value
(01:R9; log 4). -/
def Cell.refDonePossible (c : Cell) : Bool :=
  c.state == .refWindow && decide (c.gateTimer.toNat < gateTimerMax) && decide (c.refCounter.toNat ≤ 1)

/-- SENSE_WINDOW with the gate timer not yet at 0, in which sensor edges count: the close is due at 0, and an edge
taken after it "falls on a STOPPED cell" (01:R12, 01:R13; log 4). -/
def Cell.sensing (c : Cell) : Bool := c.state == .senseWindow && c.gateTimer != 0

/-- The sensor counter is full, "with the gate timer not yet at 0" (01:R13). -/
def Cell.overflowPossible (c : Cell) : Bool := c.sensing && c.sensorCounter.toNat == gateTimerMax

/-- An edge would be counted without ending the window (01:R8, 01:R11, 01:R12, 01:R14; log 4). -/
def Cell.countPossible (c : Cell) : Bool :=
  (c.state == .refWindow && decide (c.gateTimer.toNat < gateTimerMax) && decide (1 < c.refCounter.toNat)) ||
  (c.sensing && decide (c.sensorCounter.toNat < gateTimerMax))

/-- One tick: the gate timer counts up in SETTLING, AWAIT_EDGE and REF_WINDOW and down in SENSE_WINDOW
(01:R6, 01:R7, 01:R8, 01:R11). -/
def Cell.tick (c : Cell) : Cell :=
  match c.state with
  | .stopped => c
  | .settling | .awaitEdge | .refWindow => { c with gateTimer := c.gateTimer + 1 }
  | .senseWindow => { c with gateTimer := c.gateTimer - 1 }

/-! ### Channel arithmetic (01 section 1.9) -/

/-- The largest reportable ratio (01:R21). -/
def ratioMax : Nat := 4294967295

/-- The quotient of 01:R20 exceeds 4,294,967,295: "when N_ref × k ≥ 65,536 × S" (01:R21), with k above 0. A sum of 0
meets the condition too (log 20). -/
def ratioSaturates (nRef : BitVec 16) (k sum : Nat) : Bool :=
  decide (0 < k) && decide (65536 * sum ≤ nRef.toNat * k)

/-- The ratio written: 0 for k = 0, 4,294,967,295 where the quotient exceeds it, and otherwise
floor(N_ref × k × 65,536 / S) (01:R20, 01:R21). -/
def channelRatio (nRef : BitVec 16) (k sum : Nat) : Nat :=
  if k = 0 then 0
  else if ratioSaturates nRef k sum then ratioMax
  else nRef.toNat * k * 65536 / sum

end Sys2Proof.Machine
end

