-- ==== Sys2Proof/Machine/Schedule.lean ====
section
/-! DEFINITION. The scan scheduler (chapter 9): expiries, notices, the skipped count, and the life cycle of an
entry. -/
namespace Sys2Proof.Machine

open Sys2Proof

/-- The largest skipped count (09:R138). -/
def skippedMax : Nat := 255

/-- The skipped count handed over when an instance's record is formed, "and sets skipped to 0 in the same
claim" (09:R146); 0 for a ring source (03:R64). -/
def State.skippedOf (s : State) : Source → Nat
  | .ring _ => 0
  | .schedule e => (s.entry e).skipped

/-- The scheduler after that claim (09:R146). -/
def State.claimSkipped (s : State) : Source → State
  | .ring _ => s
  | .schedule e => s.setEntry e { s.entry e with skipped := 0 }

/-- An entry's next_expiry advanced by its period (09:R142). -/
def SchedEntry.advance (x : SchedEntry) : SchedEntry :=
  { x with nextExpiry := x.nextExpiry + msToMicros x.periodMs }

/-- An entry is due: non-FREE, RUNNING, and the time base at next_expiry (09:R142). -/
def State.expiryDue (s : State) (e : Entry) : Bool :=
  s.cu.state == .running && (s.entry e).state != .free && (s.entry e).nextExpiry == s.now

/-- An expiry (09:R142, 09:R143): next_expiry advances, then an ARMED entry requests its template and any other
counts a skip and sets OVERRUN. -/
def State.expire (s : State) (e : Entry) : State :=
  let x := (s.entry e).advance
  match x.state with
  | .free => s
  | .armed => s.setEntry e { x with state := .fetching, phase := .requested }
  | .fetching | .ready | .outstanding | .clearing =>
    (s.setEntry e { x with skipped := min (x.skipped + 1) skippedMax }).raise .overrun

/-- The notice of the posting of a record whose source is entry `e` (09:R147). -/
def SchedEntry.posted (x : SchedEntry) : SchedEntry :=
  match x.state with
  | .outstanding =>
    match x.ending with
    | .normal => { x with state := .armed }
    | .error => { x with state := .free, ending := .normal }
  | .clearing => { x with state := .free, ending := .normal }
  | _ => x

/-- Entry to STOPPING (09:R149). -/
def SchedEntry.stop (x : SchedEntry) : SchedEntry :=
  match x.state with
  | .fetching => { x with state := .armed, phase := .requested }
  | .ready => { x with state := .armed, held := none }
  | _ => x

/-- Entry to FAULTED (09:R150). -/
def SchedEntry.fault (x : SchedEntry) : SchedEntry :=
  match x.state with
  | .free => x
  | _ => { x with state := .armed, held := none, phase := .requested, ending := .normal }

/-- Entry to RUNNING at the end of LOADING (09:R149). -/
def SchedEntry.restart (x : SchedEntry) (now : Time) : SchedEntry :=
  match x.state with
  | .armed | .outstanding => { x with nextExpiry := now + msToMicros x.periodMs }
  | _ => x

/-- SET_SCHEDULE takes the entry as 09:R140 gives: FREE "whatever the REPLACE option", or ARMED with REPLACE. -/
def SchedEntry.canArm (x : SchedEntry) (replace : Bool) : Bool :=
  x.state == .free || (x.state == .armed && replace)

/-- SET_SCHEDULE changes the entry as 09:R141 gives: FETCHING, READY or OUTSTANDING with REPLACE. -/
def SchedEntry.canReplace (x : SchedEntry) (replace : Bool) : Bool :=
  (x.state == .fetching || x.state == .ready || x.state == .outstanding) && replace

/-- The entry armed by a SET_SCHEDULE (09:R140). -/
def SchedEntry.arm (x : SchedEntry) (d : Bytes) (now : Time) : SchedEntry :=
  { x with
    state := .armed, template := descTemplate d, periodMs := descPeriod d,
    nextExpiry := now + msToMicros (descFirstDelay d), skipped := 0, ending := .normal,
    phase := .requested }

/-- The entry changed by a SET_SCHEDULE with REPLACE (09:R141). -/
def SchedEntry.replaceWith (x : SchedEntry) (d : Bytes) : SchedEntry :=
  { x with template := descTemplate d, periodMs := descPeriod d, skipped := 0, ending := .normal }

/-- The scheduler after a SET_SCHEDULE claim, and whether it answers SUCCESS or ENTRY_BUSY (09:R140, 09:R141).
With next_expiry now and the controller RUNNING, "the entry expires as the claim is taken". -/
def State.setScheduleClaim (s : State) (d : Bytes) : State × Bool :=
  let e := descEntry d
  let x := s.entry e
  if x.canArm (descReplace d) then
    let s := s.setEntry e (x.arm d s.now)
    (if s.expiryDue e then s.expire e else s, true)
  else if x.canReplace (descReplace d) then (s.setEntry e (x.replaceWith d), true)
  else (s, false)

/-- An entry cleared (09:R148). -/
def SchedEntry.clear (x : SchedEntry) : SchedEntry :=
  match x.state with
  | .free => { x with skipped := 0 }
  | .armed => { x with state := .free, skipped := 0 }
  | .fetching => { x with state := .free, skipped := 0 }
  | .ready => { x with state := .free, held := none, skipped := 0 }
  | .outstanding => { x with state := .clearing, skipped := 0 }
  | .clearing => { x with skipped := 0 }

/-- A template request is present: FETCHING with fetch phase REQUESTED (09:R144). -/
def SchedEntry.requests (x : SchedEntry) : Bool := x.state == .fetching && x.phase == .requested

/-- SCHEDULE_EXPIRY (09:R142, 09:R143). -/
def execScheduleExpiry (e : Entry) (s : State) : Host.Outcome State Fault Refusal :=
  .next (whenReleased (fun s => if s.expiryDue e then s.expire e else s) s)

end Sys2Proof.Machine
end

