-- ==== Sys2Proof/Machine/RefTable.lean ====
section
/-! DEFINITION. The reference table's claims (chapter 2): what each does to one entry, and to the table. -/
namespace Sys2Proof.Machine

open Sys2Proof

/-- The age at `t`: (t − published_at) mod 2^32 (02:R25). -/
def RefEntry.age (e : RefEntry) (t : Time) : Nat := (t - e.publishedAt).toNat

/-- "young at t when its age is less than lifetime_ms × 1000 of its bank" (02:R25). -/
def RefEntry.young (e : RefEntry) (lifetime : BitVec 16) (t : Time) : Bool :=
  decide (e.age t < lifetime.toNat * 1000)

/-- The hit test of a lease request (02:R26). -/
def RefEntry.isHit (e : RefEntry) (nRef : BitVec 16) (force : Bool) (lifetime : BitVec 16) (t : Time) : Bool :=
  e.state == .valid && !e.leased && e.nRef == nRef && e.young lifetime t && !force

/-- The entry after a hit (02:R26). -/
def RefEntry.hit (e : RefEntry) : RefEntry := { e with leased := true }

/-- The entry after a miss (02:R27). -/
def RefEntry.miss (e : RefEntry) : RefEntry :=
  { e with state := .converting, revokePending := false, supplyRevoke := false, leased := false }

/-- "generation + 1, where 65,535 is followed by 1" (02:R29). -/
def nextGeneration (g : BitVec 16) : BitVec 16 := if g = 65535 then 1 else g + 1

/-- The entry after a publish (02:R29). -/
def RefEntry.publish (e : RefEntry) (g : BitVec 24) (nRef : BitVec 16) (t : Time) : RefEntry :=
  { state := if e.revokePending || e.supplyRevoke then .revoked else .valid
    leased := true, revokePending := false, supplyRevoke := false
    gate := g, nRef := nRef, generation := nextGeneration e.generation, publishedAt := t }

/-- The entry after a retry claim (02:R30). -/
def RefEntry.retry (e : RefEntry) : RefEntry := { e with supplyRevoke := false }

/-- The entry after a conversion failure (02:R31). -/
def RefEntry.conversionFailure (e : RefEntry) : RefEntry :=
  { e with state := .empty, revokePending := false, supplyRevoke := false }

/-- The entry after a release (02:R32). -/
def RefEntry.release (e : RefEntry) (lifetime : BitVec 16) (t : Time) : RefEntry :=
  match e.state with
  | .revoked => { e with state := .empty, leased := false }
  | .valid => { e with state := if e.young lifetime t then .valid else .stale, leased := false }
  | _ => e

/-- The entry after an invalidate that names it (02:R34). -/
def RefEntry.invalidate (e : RefEntry) : RefEntry :=
  match e.state with
  | .empty => e
  | .converting => { e with revokePending := true }
  | .valid => if e.leased then { e with state := .revoked } else { e with state := .empty }
  | .stale => { e with state := .empty }
  | .revoked => e

/-- The entry after a supply-low notice for its bank: an invalidate, but that "An entry in CONVERTING keeps its
revoke_pending mark unchanged and sets supply_revoke to 1" (02:R37). -/
def RefEntry.supplyLow (e : RefEntry) : RefEntry :=
  match e.state with
  | .converting => { e with supplyRevoke := true }
  | _ => e.invalidate

/-- The entry after the fault claim (02:R41). -/
def RefEntry.fault (e : RefEntry) : RefEntry :=
  match e.state with
  | .empty => e
  | .converting => { e with state := .empty, revokePending := false, supplyRevoke := false }
  | .valid => { e with leased := false }
  | .stale => e
  | .revoked => { e with state := .empty, leased := false }

/-- The age a snapshot reports: in milliseconds, saturated to 65,535, and 0 for an entry never published
(02:R40). -/
def RefEntry.snapAge (e : RefEntry) (t : Time) : Nat :=
  if e.generation = 0 then 0 else min (e.age t / 1000) 65535

/-- The copy a snapshot takes of one entry (02:R39). -/
def RefEntry.snap (e : RefEntry) (b : Bank) (r : Ref) (t : Time) : SnapEntry :=
  { state := e.state, leased := e.leased, generation := e.generation, gate := e.gate, nRef := e.nRef,
    age := e.snapAge t, bank := b, ref := r }

/-- The eight copies, "in the order 0A, 0B, 1A, 1B, 2A, 2B, 3A, 3B" (02:R39). -/
def State.snapshot (s : State) : List SnapEntry :=
  (List.finRange 4).flatMap fun b => [(s.ref b .a).snap b .a s.now, (s.ref b .b).snap b .b s.now]

/-- A supply-low notice for a bank reaches both of its entries (02:R37). -/
def State.supplyLowNotice (s : State) (b : Bank) : State :=
  (s.setRef b .a (s.ref b .a).supplyLow).setRef b .b (s.ref b .b).supplyLow

/-- A supply-low notice for bank `b` stays in flight (log 6). -/
def State.holdNotice (s : State) (b : Bank) : State :=
  { s with refs := s.refs.set b { s.refs[b] with noticeDue := true } }

/-- The pair of a bank after the notice in flight to it, if there is one, is taken (02:R37, log 6). -/
def RefPair.takeNotice (p : RefPair) : RefPair :=
  if p.noticeDue then { entryA := p.entryA.supplyLow, entryB := p.entryB.supplyLow, noticeDue := false } else p

/-- The notice in flight to bank `b`, if there is one, is taken (log 6). -/
def State.deliverNotice (s : State) (b : Bank) : State := { s with refs := s.refs.set b s.refs[b].takeNotice }

/-- The monitor sends a notice for bank `b`: it is taken now or stays in flight, and so may be taken after another
claim that meets it (02:R24, 02:R30, 02:R38, 04:R73); log 6's free value decides. -/
def State.sendNotice (s : State) (b : Bank) : State :=
  let t := { s with draws := s.draws + 1 }
  if Config.arrivesNow s.draws then t.supplyLowNotice b else t.holdNotice b

/-- The pair of a bank after the fault claim; a notice in flight "takes effect" first (02:R41, 05:R91). -/
def RefPair.fault (p : RefPair) : RefPair :=
  { p.takeNotice with entryA := p.takeNotice.entryA.fault, entryB := p.takeNotice.entryB.fault }

/-- The fault claim "reaches all eight entries at once" (02:R41). -/
def State.faultRefs (s : State) : State := { s with refs := mapAll RefPair.fault s.refs }

/-- An invalidate of the entries of bank `b` that a descriptor's mask names (02:R34). -/
def State.invalidateNamed (s : State) (b : Bank) (names : Ref → Bool) : State :=
  let inv (r : Ref) : RefEntry := if names r then (s.ref b r).invalidate else s.ref b r
  (s.setRef b .a (inv .a)).setRef b .b (inv .b)

end Sys2Proof.Machine
end

