-- ==== Sys2Proof/Machine/Supply.lean ====
section
/-! DEFINITION. The supply monitor's own state: the hold set, the comparator, the low-seen flags and the
parameters (chapter 5). The grants and what follows them are in Sequencer.lean. -/
namespace Sys2Proof.Machine

open Sys2Proof

/-- The reading a comparator powered on now starts from: LOW when AVDD is below the threshold (05:R83). -/
def State.powerOnReading (s : State) : Reading :=
  if s.avdd < thresholdMv s.sm.level then .low else .high

/-- The comparator reads LOW; in OFF it has no reading (05:R83). -/
def State.readsLow (s : State) : Bool := s.sm.reading == some .low

/-- The hold set is empty (05:R84). -/
def SupplyMonitor.noHolders (m : SupplyMonitor) : Bool := allPass (fun h => h.isNone) m.holders

/-- The comparator is powered off and the monitor enters OFF; "the settle timer is set to 0" (05:R87, 05:R91). -/
def SupplyMonitor.powerOff (m : SupplyMonitor) : SupplyMonitor :=
  { m with state := .off, settleTimer := 0, reading := none }

/-- Pending parameters, when present, become those in force (05:R87, 05:R90). -/
def SupplyMonitor.applyPending (m : SupplyMonitor) : SupplyMonitor :=
  match m.pendingParams with
  | none => m
  | some p => { m with level := p.level, settleTime := p.settleTime, pendingParams := none }

/-- A hold release from BSb (05:R87). -/
def State.releaseHold (s : State) (b : Bank) : State :=
  if (s.holder b).isSome then
    let m := (s.setHolder b none).sm
    { s with sm := if m.noHolders then m.powerOff.applyPending else m }
  else s

/-- The clear request of 05:R88: the flag "set to 0; then at once set to 1 if the comparator reads LOW". -/
def State.clearLowSeen (s : State) (b : Bank) : State :=
  match s.holder b with
  | none => s
  | some h => s.setHolder b (some { h with lowSeen := s.readsLow && h.status == .granted })

/-- BSb's low-seen flag, read at a window's end (03:R55). -/
def State.lowSeen (s : State) (b : Bank) : Bool :=
  match s.holder b with
  | none => false
  | some h => h.lowSeen

/-- A holder at a low transition: GRANTED, its low-seen flag is set (05:R89). -/
def Holder.lowTransition (h : Holder) : Holder := if h.status = .granted then { h with lowSeen := true } else h

/-- A low transition sets the low-seen flag of every GRANTED holder (05:R89). -/
def SupplyMonitor.markGranted (m : SupplyMonitor) : SupplyMonitor :=
  { m with holders := mapAll (fun h : Option Holder => h.map Holder.lowTransition) m.holders }

/-- Bank `b` has a GRANTED holder. -/
def State.holdGranted (s : State) (b : Bank) : Bool :=
  match s.holder b with
  | none => false
  | some h => h.status == .granted

/-- Supply-low notices "for the bank of every GRANTED holder" (05:R89). -/
def State.noticeGranted (s : State) : State :=
  (List.finRange 4).foldl (fun t b => if s.holdGranted b then t.sendNotice b else t) s

/-- The effects of a low transition in WATCHING: flags, notices and the SUPPLY_LOW cause (05:R89). A notice is taken
now or stays in flight (log 6). -/
def State.lowTransitionEffects (s : State) : State :=
  ({ s with sm := s.sm.markGranted }.noticeGranted).raise .supplyLow

/-- Entry to FAULTED or RESETTING: the hold set is cleared and the monitor enters OFF; pending parameters are
kept (05:R91). -/
def SupplyMonitor.clearHolds (m : SupplyMonitor) : SupplyMonitor :=
  { m.powerOff with holders := .replicate 4 none }

/-- SETTLING and the settle timer has reached the settle time in force × 100 µs (05:R86). -/
def SupplyMonitor.settleEndDue (m : SupplyMonitor) : Bool :=
  m.state == .settling && decide (m.settleTime * monitorSettleUnit ≤ m.settleTimer)

/-- AVDD at `mv` is a low transition: in WATCHING with the reading HIGH, `mv` is below the threshold (05:R83,
05:R89). -/
def State.lowTransitionPossible (s : State) (mv : Nat) : Bool :=
  s.sm.state == .watching && s.sm.reading == some .high && decide (mv < thresholdMv s.sm.level)

/-- The comparator's reading with AVDD at `mv`: LOW below the threshold in force, HIGH above it by more than
0.05 V; "Between those two levels the reading keeps its last value", and in OFF there is none (05:R83). -/
def SupplyMonitor.readingAt (m : SupplyMonitor) (mv : Nat) : Option Reading :=
  if m.state = .off then m.reading
  else if mv < thresholdMv m.level then some .low
  else if thresholdMv m.level + hysteresisMv < mv then some .high
  else m.reading

/-- AVDD stands at `mv`, and the comparator reads it (05:R83). -/
def State.setAvdd (s : State) (mv : Nat) : State :=
  { s with avdd := mv, sm := { s.sm with reading := s.sm.readingAt mv } }

/-- AVDD moves to `mv`: the level is kept in every state, and a reading that falls from HIGH to LOW in WATCHING is a
low transition (05:R83, 05:R89). In SETTLING "the monitor takes no action on it". -/
def State.moveAvdd (s : State) (mv : Nat) : State :=
  if s.lowTransitionPossible mv then (s.setAvdd mv).lowTransitionEffects else s.setAvdd mv

/-- A move of the pin AVDD; while RESET_N is asserted the pin alone moves (logs 5, 16). -/
def State.pinAvdd (s : State) (mv : Nat) : State :=
  if s.resetAsserted then { s with avdd := mv } else s.moveAvdd mv

/-- LOW_TRANSITION (05:R89). AVDD moves to the level it carries (log 5). -/
def execLowTransition (mv : Nat) (s : State) : Host.Outcome State Fault Refusal := .next (s.pinAvdd mv)

/-- COMPARATOR_READS_HIGH (05:R83). AVDD moves to the level it carries (log 5). -/
def execComparatorReadsHigh (mv : Nat) (s : State) : Host.Outcome State Fault Refusal := .next (s.pinAvdd mv)

/-- COMPARATOR_READS_LOW (05:R83). AVDD moves to the level it carries (log 5). -/
def execComparatorReadsLow (mv : Nat) (s : State) : Host.Outcome State Fault Refusal := .next (s.pinAvdd mv)

end Sys2Proof.Machine
end

