-- ==== Sys2Proof/Machine/Sequencer.lean ====
section
/-! DEFINITION. The bank sequencer (chapter 3): starting windows, the hold and the lease, judging outcomes, the end
of a MEASURE, the take, posting and admission, with the events of the cell that reach it (chapter 1). -/
namespace Sys2Proof.Machine

open Sys2Proof

/-! ### Start commands -/

/-- BSb gives its cell a start reference command for its active descriptor; "Each time it gives its cell a start
command, the sequencer has the supply monitor clear its low-seen flag" (03:R54, 03:R55, 03:R57). -/
def State.startReferenceWindow (s : State) (b : Bank) : State :=
  let d := s.headDesc b
  (s.setCell b ((s.cell b).startReference (descRef d) (descNRef d) (descSettle d))).clearLowSeen b

/-- The gate that every sense window of the MEASURE uses: the copied one (02:R28). -/
def Context.gate (c : Context) : BitVec 24 :=
  match c.lease with
  | none => 0
  | some l => l.gate

/-- BSb gives its cell a start sample command for the list entry under way, with the copied gate (03:R59, 03:R55). -/
def State.startSampleWindow (s : State) (b : Bank) : State :=
  match (s.bank b).context with
  | none => s
  | some x =>
    let d := s.headDesc b
    (s.setCell b ((s.cell b).startSample (descChannel d x.entryPos) x.gate (descSettle d))).clearLowSeen b

/-! ### Records of the sequencer -/

/-- A record that BSb forms for its head entry, without the values that a rule adds (03:R49, 03:R52, 03:R53,
03:R64). -/
def baseRecord (d : Bytes) (src : Source) (start now : Time) : Record :=
  { slotCount := 1, kind := descKind d, status := .success,
    flags := { RecordFlags.clear with notify := descNotify d }, tag := descTag d, source := src,
    bank := descBank d, ref := .a, gate := 0, nRef := 0, generation := 0, startTime := start, endTime := now,
    detail := 0, channels := [], snapshot := [] }

/-- The formed record is placed in the context and the sequencer enters POSTING (03:R66). -/
def State.enterPosting (s : State) (b : Bank) (r : Record) : State :=
  (s.mapContext b fun x => { x with record := some r }).setSeq b .posting

/-- A channel entry marked NOT_RUN (03:R58, 04:R72). -/
def notRunEntry (d : Bytes) (i : Nat) : ChannelEntry :=
  { channel := descChannel d i, status := .notRun, good := 0, rejected := 0, limit := .none, sum := 0,
    ratio := 0 }

/-- The list positions from `i` on, all NOT_RUN. -/
def notRunFrom (d : Bytes) (i : Nat) : List ChannelEntry :=
  ((List.range (descChannelCount d)).drop i).map (notRunEntry d)

/-- The content of a MEASURE record formed from a context (03:R64, 04:R74): copied values, or gate 0, generation 0
and the descriptor's n_ref when no lease was gained (02:R28). -/
def measureRecord (d : Bytes) (src : Source) (x : Context) (now : Time) (status : RecordStatus)
    (reason : FailureReason) (skipped : Nat) (channels : List ChannelEntry) : Record :=
  { slotCount := measureSlots (descChannelCount d), kind := Kind.measure.code, status := status,
    flags := { x.flags with notify := descNotify d }, tag := descTag d, source := src, bank := descBank d,
    ref := descRef d,
    gate := x.gate,
    nRef := match x.lease with
      | none => descNRef d
      | some l => l.nRef
    generation := match x.lease with
      | none => 0
      | some l => l.generation
    startTime := x.startTime, endTime := now, detail := measureDetail reason skipped, channels := channels,
    snapshot := [] }

/-- BSb forms its MEASURE record and enters POSTING; for a scheduled instance it takes the skipped count from the
scan scheduler (03:R64, 09:R146). -/
def State.formMeasure (s : State) (b : Bank) (status : RecordStatus) (reason : FailureReason)
    (channels : List ChannelEntry) : State :=
  match (s.bank b).context with
  | none => s
  | some x =>
    let src := s.headSource b
    (s.claimSkipped src).enterPosting b
      (measureRecord (s.headDesc b) src x s.now status reason (s.skippedOf src) channels)

/-! ### The end of a MEASURE and of a conversion -/

/-- BSb releases its hold and sets its hold to none (03:R58, 03:R63). -/
def State.dropHold (s : State) (b : Bank) : State :=
  (s.releaseHold b).mapContext b fun x => { x with hold := .none }

/-- BSb releases its lease; "The table answers whether the entry was REVOKED, and the sequencer sets REF_REVOKED
in the context when it was" (03:R63, 02:R32, 02:R33). -/
def State.dropLease (s : State) (b : Bank) : State :=
  let r := descRef (s.headDesc b)
  let e := s.ref b r
  let revoked := e.state == .revoked
  (s.setRef b r (e.release (s.bank b).lifetime s.now)).mapContext b fun x =>
    { x with leaseHeld := false, flags := { x.flags with refRevoked := x.flags.refRevoked || revoked } }

/-- BSb sends the table a conversion failure for its entry (02:R31). -/
def State.failConversion (s : State) (b : Bank) : State :=
  let r := descRef (s.headDesc b)
  s.setRef b r (s.ref b r).conversionFailure

/-- The conversion fails and the MEASURE ends without measuring any channel (03:R58). -/
def State.endFailed (s : State) (b : Bank) (reason : FailureReason) : State :=
  ((s.failConversion b).dropHold b).formMeasure b .refFailed reason (notRunFrom (s.headDesc b) 0)

/-- SUCCESS "when every channel status is OK, PARTIAL when any is not" (03:R64). -/
def resultStatus (results : List ChannelEntry) : RecordStatus :=
  if results.all fun c => c.status == .ok then .success else .partialResult

/-- The channel results of the context so far. -/
def State.results (s : State) (b : Bank) : List ChannelEntry :=
  match (s.bank b).context with
  | none => []
  | some x => x.results

/-- The MEASURE ends after its last channel: lease, then hold, then record (03:R63). -/
def State.endMeasure (s : State) (b : Bank) : State :=
  ((s.dropLease b).dropHold b).formMeasure b (resultStatus (s.results b)) .none (s.results b)

/-- The releases of an end, and its record (03:R58, 03:R63). -/
def State.finish (s : State) (b : Bank) : MeasureEnd → State
  | .complete => s.endMeasure b
  | .failed reason => s.endFailed b reason

/-- The last outcome of BSb's MEASURE has been judged. Its releases are taken now, or stay in flight and so may meet a
low transition that is taken first, after the flag has been read: "The sequencer has already read its flag for the last
window" (05:R89, 02:R33, 03:R63); log 6's free value decides. -/
def State.sendEnd (s : State) (b : Bank) (k : MeasureEnd) : State :=
  let t := { s with draws := s.draws + 1 }
  if Config.arrivesNow s.draws then t.finish b k else t.mapContext b fun x => { x with endDue := some k }

/-- The sequencer state in which an end can be in flight. -/
def MeasureEnd.fits (k : MeasureEnd) (q : SeqState) : Bool :=
  match k with
  | .complete => q == .measuring
  | .failed _ => q == .reference

/-- The end of BSb's MEASURE that is in flight (log 6). The sequencers "run their descriptors in RUNNING and STOPPING"
(02:R24); in RESETTING every sequencer has stopped and makes no claim, so an end judged before is disregarded
(03:R68, 10:R162). -/
def State.endInFlight (s : State) (b : Bank) : Option MeasureEnd :=
  match (s.bank b).context with
  | none => none
  | some x => x.endDue.filter fun k => s.working && k.fits (s.bank b).seq

/-- The end in flight at BSb, if there is one, is taken (log 6). -/
def State.deliverEnd (s : State) (b : Bank) : State :=
  match s.endInFlight b with
  | none => s
  | some k => (s.mapContext b fun x => { x with endDue := none }).finish b k

/-! ### Samples and channels -/

/-- The first sample of list entry `i`: accumulator and first rejection cleared (03:R59, 01:R18). -/
def State.beginEntry (s : State) (b : Bank) (i : Nat) : State :=
  (s.mapContext b fun x =>
    { x with entryPos := i, sampleNo := 1, acc := .zero, firstRejection := none }).startSampleWindow b

/-- How a sample is judged: its count if good, else its rejection outcome (03:R60). -/
def judgeSample (o : Outcome) (lowSeen : Bool) : Except Rejection Nat :=
  if lowSeen then .error .supplyLow
  else match o with
    | .good n => .ok n.toNat
    | .openCircuit _ => .error .openCircuit
    | .overflow => .error .overflow
    | .refDone _ => .error .openCircuit
    | .refTimeout => .error .openCircuit

/-- The accumulator with one judged sample (01:R18, 03:R60). -/
def Accumulator.add (a : Accumulator) : Except Rejection Nat → Accumulator
  | .ok n => { a with good := a.good + 1, sum := a.sum + n }
  | .error _ => { a with rejected := a.rejected + 1 }

/-- "The first rejected sample of a list entry records its rejection outcome" (03:R60). -/
def noteRejection (first : Option Rejection) : Except Rejection Nat → Option Rejection
  | .ok _ => first
  | .error r => first.orElse fun _ => some r

/-- The context after one judged sample; a window with the flag set sets SUPPLY_LOW_SEEN (03:R55, 03:R60). -/
def Context.addSample (x : Context) (o : Outcome) (lowSeen : Bool) : Context :=
  { x with
    acc := x.acc.add (judgeSample o lowSeen),
    firstRejection := noteRejection x.firstRejection (judgeSample o lowSeen),
    flags := { x.flags with supplyLowSeen := x.flags.supplyLowSeen || lowSeen } }

/-- The limit result of 03:R62. -/
def limitResult (d : Bytes) (good ratio : Nat) : LimitResult :=
  if descLimits d && decide (0 < good) then
    if ratio < (descLimitLow d).toNat then .below
    else if ratio ≤ (descLimitHigh d).toNat then .inside else .above
  else .none

/-- The channel status of 03:R61. -/
def channelStatus (a : Accumulator) (first : Option Rejection) : ChannelStatus :=
  if a.good = 0 then
    match first with
    | some .overflow => .overflow
    | some .supplyLow => .supplyLow
    | _ => .openCircuit
  else if a.rejected = 0 then .ok else .partialResult

/-- The n_ref that every channel ratio uses: the copied one (02:R28). -/
def Context.ratioNRef (x : Context) : BitVec 16 :=
  match x.lease with
  | none => 0
  | some l => l.nRef

/-- The channel entry of the list entry under way, with a given status (03:R61, 04:R72). -/
def Context.channelEntry (x : Context) (d : Bytes) (status : ChannelStatus) : ChannelEntry :=
  { channel := descChannel d x.entryPos, status := status, good := x.acc.good, rejected := x.acc.rejected,
    limit := limitResult d x.acc.good (channelRatio x.ratioNRef x.acc.good x.acc.sum), sum := x.acc.sum,
    ratio := channelRatio x.ratioNRef x.acc.good x.acc.sum }

/-- The channel entry is appended; SATURATED and LIMIT_HIT are set as 01:R21 and 03:R62 give (03:R61). -/
def Context.completeEntry (x : Context) (d : Bytes) (status : ChannelStatus) : Context :=
  let c := x.channelEntry d status
  { x with
    results := x.results ++ [c],
    flags := { x.flags with
      saturated := x.flags.saturated || ratioSaturates x.ratioNRef x.acc.good x.acc.sum,
      limitHit := x.flags.limitHit || c.limit == .below || c.limit == .above } }

/-- What BSb does with a sample outcome in MEASURING: the next sample, the next list entry, or the end
(03:R59 to 03:R63). DESIGN CHOICE (log 28): a next start command is given within the same command, so no fall and rise
of AVDD comes between the reading of the flag and its clear request; unsafe. -/
def State.takeSample (s : State) (b : Bank) (o : Outcome) : State :=
  match (s.bank b).context with
  | none => s
  | some x =>
    let d := s.headDesc b
    let x1 := x.addSample o (s.lowSeen b)
    if x1.sampleNo < descSamples d then
      (s.mapContext b fun _ => { x1 with sampleNo := x1.sampleNo + 1 }).startSampleWindow b
    else
      let t := s.mapContext b fun _ => x1.completeEntry d (channelStatus x1.acc x1.firstRejection)
      if x1.entryPos + 1 < descChannelCount d then t.beginEntry b (x1.entryPos + 1) else t.sendEnd b .complete

/-! ### The lease -/

/-- BSb copies gate, n_ref and generation of its entry, holds the lease and enters MEASURING with the first
sample (02:R28, 03:R54, 03:R56). -/
def State.gainLease (s : State) (b : Bank) (e : RefEntry) : State :=
  ((s.mapContext b fun x =>
    { x with lease := some { gate := e.gate, nRef := e.nRef, generation := e.generation }, leaseHeld := true }
    ).setSeq b .measuring).beginEntry b 0

/-- The lease request and its answer (03:R54, 02:R26, 02:R27). -/
def State.requestLease (s : State) (b : Bank) : State :=
  let d := s.headDesc b
  let r := descRef d
  let e := s.ref b r
  if e.isHit (descNRef d) (descForceRef d) (s.bank b).lifetime s.now then
    (s.setRef b r e.hit).gainLease b e.hit
  else
    (((s.setRef b r e.miss).mapContext b fun x =>
      { x with flags := { x.flags with refConverted := true }, supplyFailures := 0 }).setSeq b .reference
      ).startReferenceWindow b

/-- BSb takes the grant of its hold and requests its lease (03:R54). A sequencer that is not STARTING disregards
the grant (04:R70). -/
def State.takeGrant (s : State) (b : Bank) : State :=
  if (s.bank b).seq = .starting then
    (s.mapContext b fun x => { x with hold := .granted }).requestLease b
  else s

/-- The monitor sends BSb its grant: it is taken now or stays in flight, and so may meet an abort that is taken first
(04:R70); log 6's free value decides. -/
def State.sendGrant (s : State) (b : Bank) : State :=
  let t := { s with draws := s.draws + 1 }
  if Config.arrivesNow s.draws then t.takeGrant b else t

/-- A grant with the notice that goes with it while the comparator reads LOW; the notice and the lease request reach
the table "in either order" (02:R38, 05:R88). -/
def State.grantHolder (s : State) (b : Bank) : State :=
  if s.readsLow then (s.sendNotice b).sendGrant b else s.sendGrant b

/-- The monitor takes a hold request from BSb (05:R85, 05:R88). -/
def State.addHolder (s : State) (b : Bank) : State :=
  match s.sm.state with
  | .off =>
    let t := s.setHolder b (some { status := .waiting, lowSeen := false })
    { t with sm := { t.sm with state := .settling, settleTimer := 0, reading := some s.powerOnReading } }
  | .settling => s.setHolder b (some { status := .waiting, lowSeen := false })
  | .watching => (s.setHolder b (some { status := .granted, lowSeen := s.readsLow })).grantHolder b

/-- A hold request from BSb for its next MEASURE. A notice of its earlier hold that is still in flight is taken first:
"In every order, the gate stored before the dip is not handed to any later descriptor" (02:R38, log 6). -/
def State.requestHold (s : State) (b : Bank) : State := (s.deliverNotice b).addHolder b

/-! ### The take -/

/-- The context of a descriptor just taken (03:R50, 03:R51). DESIGN CHOICE (log 26): the manual gives the sample
number, the entry position and the accumulator no value before the first sample, and here each is 0; unsafe. -/
def newContext (now : Time) : Context :=
  { startTime := now, lease := none, leaseHeld := false, hold := .none, supplyFailures := 0, entryPos := 0,
    sampleNo := 0, acc := .zero, firstRejection := none, results := [], flags := .clear, record := none, endDue := none }

/-- The FLUSHED record (03:R53, 04:R77). -/
def flushedRecord (k : BankSeq) (q : QueueEntry) (now : Time) (skipped : Nat) : Record :=
  let base := baseRecord q.desc q.source now now
  if descKind q.desc = Kind.setBank.code then
    { base with status := .flushed, detail := bankDetail k.enabled k.lifetime }
  else
    { base with
      status := .flushed, ref := descRef q.desc, nRef := descNRef q.desc,
      detail := measureDetail .none skipped }

/-- The SET_BANK record: "Its detail field reports the enabled and lifetime_ms values in force before the
descriptor was taken" (03:R49). -/
def setBankRecord (k : BankSeq) (q : QueueEntry) (now : Time) : Record :=
  { baseRecord q.desc q.source now now with detail := bankDetail k.enabled k.lifetime }

/-- The BANK_DISABLED record (03:R52). -/
def bankDisabledRecord (q : QueueEntry) (now : Time) (skipped : Nat) : Record :=
  { baseRecord q.desc q.source now now with
    status := .bankDisabled, ref := descRef q.desc, nRef := descNRef q.desc,
    detail := measureDetail .none skipped }

/-- A SET_BANK's parameters take effect (03:R49). -/
def BankSeq.applySetBank (k : BankSeq) (d : Bytes) : BankSeq :=
  { k with enabled := descEnabled d, lifetime := descLifetime d }

/-- BSb takes its queue head as the first matching row of 03:R51 gives. -/
def State.takeHead (s : State) (b : Bank) : State :=
  match (s.bank b).queue with
  | [] => s
  | q :: _ =>
    let k := s.bank b
    let t := s.setBank b { k with context := some (newContext s.now) }
    if q.flushed then
      (t.claimSkipped q.source).enterPosting b (flushedRecord k q s.now (s.skippedOf q.source))
    else if descKind q.desc = Kind.setBank.code then
      (t.setBank b ((t.bank b).applySetBank q.desc)).enterPosting b (setBankRecord k q s.now)
    else if k.enabled then
      ((t.mapContext b fun x => { x with hold := .requested }).setSeq b .starting).requestHold b
    else
      (t.claimSkipped q.source).enterPosting b (bankDisabledRecord q s.now (s.skippedOf q.source))

/-! ### Posting -/

/-- The completion writer reports BSb's record posted: the head leaves, and the next is taken or the sequencer
enters IDLE (03:R43, 03:R66). -/
def State.sequencerPosted (s : State) (b : Bank) : State :=
  let k := s.bank b
  let t := s.setBank b { k with queue := k.queue.tail, context := none, seq := .idle }
  match k.queue.tail with
  | [] => t
  | _ :: _ => t.takeHead b

/-! ### Outcomes -/

/-- REF_DONE in REFERENCE (03:R56 to 03:R58). A low transition taken after the flag is read clear is taken after the
publish, which leaves what the other order leaves (02:R37); for a fall and a rise before the next start command see log
28. -/
def State.takeRefDone (s : State) (b : Bank) (g : BitVec 24) : State :=
  match (s.bank b).context with
  | none => s
  | some x =>
    let d := s.headDesc b
    let r := descRef d
    if s.lowSeen b then
      let t := s.mapContext b fun x => { x with flags := { x.flags with supplyLowSeen := true } }
      if x.supplyFailures = 0 then
        ((t.mapContext b fun x => { x with supplyFailures := 1 }).setRef b r (t.ref b r).retry
          ).startReferenceWindow b
      else t.sendEnd b (.failed .supplyLow)
    else
      let e := (s.ref b r).publish g (descNRef d) s.now
      (s.setRef b r e).gainLease b e

/-- REF_TIMEOUT in REFERENCE: "whether or not the low-seen flag is set, and it is not retried" (03:R58). The
releases may meet a low transition that is taken first (05:R89, log 6). -/
def State.takeRefTimeout (s : State) (b : Bank) : State :=
  (s.mapContext b fun x =>
    { x with flags := { x.flags with supplyLowSeen := x.flags.supplyLowSeen || s.lowSeen b } }
    ).sendEnd b (.failed .timeout)

/-- An outcome reaches BSb (01:R15). In any state but REFERENCE and MEASURING it is disregarded (01:R16). -/
def State.takeOutcome (s : State) (b : Bank) (o : Outcome) : State :=
  match (s.bank b).seq with
  | .reference =>
    match o with
    | .refDone g => s.takeRefDone b g
    | .refTimeout => s.takeRefTimeout b
    | .good _ => s
    | .openCircuit _ => s
    | .overflow => s
  | .measuring =>
    match o with
    | .refDone _ => s
    | .refTimeout => s
    | .good _ => s.takeSample b o
    | .openCircuit _ => s.takeSample b o
    | .overflow => s.takeSample b o
  | .idle => s
  | .starting => s
  | .posting => s

/-- The cell's window ends and its outcome reaches BSb, which reads its low-seen flag at that moment (01:R15,
03:R55). -/
def State.endWindowWith (s : State) (b : Bank) (c : Cell) (o : Outcome) : State :=
  (s.setCell b c).takeOutcome b o

/-! ### Events of the cell -/

/-- The settle delay of CCb expires (01:R6), if due. -/
def State.settleExpiry (s : State) (b : Bank) : State :=
  if (s.cell b).settleDue then s.setCell b (s.cell b).expireSettle else s

/-- The start timeout of CCb expires (01:R7), if due: REF_TIMEOUT, or OPEN with N_s = 0. -/
def State.startTimeoutExpiry (s : State) (b : Bank) : State :=
  if (s.cell b).startTimeoutDue then
    s.endWindowWith b (s.cell b).endWindow
      (match (s.cell b).kind with
        | .reference => .refTimeout
        | .sense => .openCircuit 0)
  else s

/-- The reference window of CCb times out (01:R10), if due. -/
def State.refWindowTimeout (s : State) (b : Bank) : State :=
  if (s.cell b).refTimeoutDue then s.endWindowWith b (s.cell b).endWindow .refTimeout else s

/-- The sense window of CCb closes (01:R12), if due. -/
def State.senseClose (s : State) (b : Bank) : State :=
  if (s.cell b).senseCloseDue then
    s.endWindowWith b (s.cell b).endWindow (senseOutcome (s.cell b).sensorCounter)
  else s

/-- The first edge at CCb (01:R7, 01:R8, 01:R11). "With G = 0 the window closes at the opening edge". -/
def State.takeFirstEdge (s : State) (b : Bank) : State :=
  if (s.cell b).state = .awaitEdge then
    let t := s.setCell b (s.cell b).openWindow
    t.senseClose b
  else s

/-- SETTLE_DELAY_EXPIRY (01:R6). -/
def execSettleDelayExpiry (b : Bank) (s : State) : Host.Outcome State Fault Refusal :=
  .next (whenReleased (fun s => s.settleExpiry b) s)

/-- FIRST_EDGE (01:R7). -/
def execFirstEdge (b : Bank) (s : State) : Host.Outcome State Fault Refusal :=
  .next (whenReleased (fun s => s.takeFirstEdge b) s)

/-- START_TIMEOUT (01:R7). -/
def execStartTimeout (b : Bank) (s : State) : Host.Outcome State Fault Refusal :=
  .next (whenReleased (fun s => s.startTimeoutExpiry b) s)

/-- REF_DONE (01:R9): "carrying G equal to the value of the gate timer at that edge". -/
def execRefDone (b : Bank) (s : State) : Host.Outcome State Fault Refusal :=
  .next (whenReleased (fun s =>
    if (s.cell b).refDonePossible then
      s.endWindowWith b (s.cell b).finishReference (.refDone (s.cell b).gateTimer)
    else s) s)

/-- REF_TIMEOUT (01:R10). -/
def execRefTimeout (b : Bank) (s : State) : Host.Outcome State Fault Refusal :=
  .next (whenReleased (fun s => s.refWindowTimeout b) s)

/-- SENSE_WINDOW_CLOSE (01:R12). -/
def execSenseWindowClose (b : Bank) (s : State) : Host.Outcome State Fault Refusal :=
  .next (whenReleased (fun s => s.senseClose b) s)

/-- OVERFLOW (01:R13). -/
def execOverflow (b : Bank) (s : State) : Host.Outcome State Fault Refusal :=
  .next (whenReleased (fun s =>
    if (s.cell b).overflowPossible then s.endWindowWith b (s.cell b).endWindow .overflow else s) s)

/-- COUNTED_EDGE (01:R8, 01:R11, 01:R14): "A single edge changes one counter of one cell." -/
def execCountedEdge (b : Bank) (s : State) : Host.Outcome State Fault Refusal :=
  .next (whenReleased (fun s =>
    if (s.cell b).countPossible then s.setCell b (s.cell b).countEdge else s) s)

end Sys2Proof.Machine
end

