-- ==== Sys2Proof/Machine/Abort.lean ====
section
/-! DEFINITION. Bank abort and flush (chapter 4). -/
namespace Sys2Proof.Machine

open Sys2Proof

/-- The abort "sets the flushed mark of every entry of the bank queue behind the active head entry" (04:R76). -/
def flushBehind : List QueueEntry → List QueueEntry
  | [] => []
  | q :: qs => q :: qs.map fun e => { e with flushed := true }

/-- The queue of bank `b` flushed behind its head (04:R76). -/
def State.flushQueue (s : State) (b : Bank) : State :=
  s.setBank b { s.bank b with queue := flushBehind (s.bank b).queue }

/-- An abort in STARTING: the hold is withdrawn and every channel is NOT_RUN (04:R70). -/
def State.abortStarting (s : State) (b : Bank) : State :=
  (s.dropHold b).formMeasure b .aborted .none (notRunFrom (s.headDesc b) 0)

/-- BSb gives its cell a stop (01:R16). -/
def State.stopCell (s : State) (b : Bank) : State := s.setCell b (s.cell b).stop

/-- An abort in REFERENCE: stop, conversion failure, hold released, every channel NOT_RUN (04:R71). -/
def State.abortReference (s : State) (b : Bank) : State :=
  (((s.stopCell b).failConversion b).dropHold b).formMeasure b .aborted .none (notRunFrom (s.headDesc b) 0)

/-- The channel results of an abort in MEASURING: the entry in progress ABORTED over its good samples (04:R72). -/
def State.abortEntry (s : State) (b : Bank) : State :=
  s.mapContext b fun x => x.completeEntry (s.headDesc b) .aborted

/-- The list position under way. -/
def State.entryPosition (s : State) (b : Bank) : Nat :=
  match (s.bank b).context with
  | none => 0
  | some x => x.entryPos

/-- An abort in MEASURING: stop, results, then lease, hold and record in the order of 03:R63 (04:R72, 04:R73).
A supply-low notice that meets the release is taken before it, or stays in flight and is taken after it (04:R73, log 6).
-/
def State.abortMeasuring (s : State) (b : Bank) : State :=
  let t := (s.stopCell b).abortEntry b
  ((t.dropLease b).dropHold b).formMeasure b .aborted .none
    (t.results b ++ notRunFrom (s.headDesc b) (s.entryPosition b + 1))

/-- An abort taken by BSb in the state it is in (04:R70 to 04:R76). -/
def State.abortActive (s : State) (b : Bank) : State :=
  match (s.bank b).seq with
  | .idle => s
  | .starting => (s.abortStarting b).flushQueue b
  | .reference => (s.abortReference b).flushQueue b
  | .measuring => (s.abortMeasuring b).flushQueue b
  | .posting => s.flushQueue b

/-- An abort reaches BSb. An end in flight is taken first: "If the outcome is taken first, the MEASURE ends by R63 with
its normal record, and the abort finds the sequencer in POSTING" (04:R71, 04:R73, log 6). -/
def State.abortBank (s : State) (b : Bank) : State := (s.deliverEnd b).abortActive b

/-- A write to BANK_ABORT: accepted in RUNNING and STOPPING, ignored otherwise (04:R69). The banks are
aborted one after another; an event between two of them is one between two writes of one bank each (log 27). -/
def State.writeBankAbort (s : State) (v : BitVec 32) : State :=
  if s.working then
    (List.finRange 4).foldl (fun t b => if abortNames v b then t.abortBank b else t) s
  else s

/-- BANK_ABORT (04:R69). -/
def execBankAbort (v : BitVec 32) (s : State) : Host.Outcome State Fault Refusal :=
  .next (whenReleased (fun s => s.writeBankAbort v) s)

end Sys2Proof.Machine
end

