-- ==== Sys2Proof/Machine/Fetch.lean ====
section
/-! DEFINITION. The fetch unit (chapter 6): SUBMIT, the fetch arbiter, answers, staging, the immediate kinds, the
FENCE, the posting list and the status area. -/
namespace Sys2Proof.Machine

open Sys2Proof

/-! ### The status area (06:R112, 07 section 7.5.2) -/

/-- The 16 bytes: consumed indices, ring state codes, zeros. -/
def State.statusBytes (s : State) : Bytes :=
  ((List.finRange 4).flatMap fun n => leBytes 2 (s.ring n).consumed) ++
  ((List.finRange 4).map fun n => (s.ring n).state.code) ++ [0, 0, 0, 0]

/-- A status-area write is issued with the values as they stand (06:R112). -/
def State.writeStatus (s : State) : State :=
  s.issueWrite { kind := .status, addr := s.fu.statusAddr, bytes := s.statusBytes }

/-! ### The posting list (06:R107) -/

/-- A record formed by the fetch unit joins the end of the posting list. -/
def State.pushRecord (s : State) (r : Record) : State :=
  { s with fu := { s.fu with posting := s.fu.posting ++ [r] } }

/-- A ring's record is formed: it joins the posting list and the ring becomes POSTING (06:R102, 06:R104, 06:R105,
06:R110). -/
def State.formFetchRecord (s : State) (n : Ring) (r : Record) : State :=
  (s.setRing n { s.ring n with state := .posting }).pushRecord r

/-! ### SUBMIT (06:R95) -/

/-- The ring holds slot consumed mod size in flight or in staging: FETCHING, STAGED, BLOCKED, POSTING or FENCED
(06:R95). -/
def RingState.busy : RingState → Bool
  | .fetching | .staged | .blocked | .posting | .fenced => true
  | .disabled | .idle | .error => false

/-- The acceptance test of 06:R95 but for the controller state. -/
def SubRing.accepts (r : SubRing) (t : Index) : Bool :=
  r.state != .disabled && r.state != .error && decide ((t - r.consumed).toNat ≤ r.size) &&
  (!r.state.busy || t != r.consumed)

/-- A write to SUBMIT (06:R95); "In RESETTING ... ignored" (10:R156). -/
def State.writeSubmit (s : State) (v : BitVec 32) : State :=
  if s.cu.state = .resetting then s
  else if s.cu.state = .running ∧ (s.ring (submitRing v)).accepts (submitTail v) = true then
    s.setRing (submitRing v) { s.ring (submitRing v) with tail := submitTail v }
  else s.raise .hostError

/-- SUBMIT (06:R95, 06:R96). -/
def execSubmit (v : BitVec 32) (s : State) : Host.Outcome State Fault Refusal :=
  .next (whenReleased (fun s => s.writeSubmit v) s)

/-! ### The fetch arbiter (06:R97) -/

/-- Ring `n + k` mod 4. -/
def ringAfter (n : Ring) (k : Nat) : Ring := Fin.ofNat 4 (n.val + k)

/-- The round-robin order n + 1, n + 2, n + 3, n + 4 mod 4 (03:R45, 06:R97). -/
def roundRobin (n : Ring) : List Ring := [ringAfter n 1, ringAfter n 2, ringAfter n 3, ringAfter n 4]

/-- The lowest-numbered entry with a template request (06:R97). -/
def State.templateCandidate (s : State) : Option Entry :=
  (List.finRange 8).find? fun e => (s.entry e).requests

/-- A ring the arbiter may take: IDLE with tail different from consumed (06:R97). -/
def SubRing.wantsFetch (r : SubRing) : Bool := r.state == .idle && r.tail != r.consumed

/-- The ring the arbiter takes when no template request waits (06:R97). -/
def State.ringCandidate (s : State) : Option Ring :=
  (roundRobin s.fu.lastFetched).find? fun n => (s.ring n).wantsFetch

/-- The arbiter may issue: RUNNING and "no descriptor read is in flight" (06:R97). -/
def State.mayFetch (s : State) : Bool := s.cu.state == .running && s.hp.read.isNone

/-- The address of slot consumed mod size (06:R98). -/
def SubRing.slotAddr (r : SubRing) : Addr := addressSum r.base (r.consumed.toNat % r.size * 64)

/-- The ring read issued for ring `n` (06:R98). -/
def State.issueRingRead (s : State) (n : Ring) : State :=
  let t := (s.setRing n { s.ring n with state := .fetching }).setRead (some (.ring n (s.ring n).slotAddr))
  { t with fu := { t.fu with lastFetched := n } }

/-- RING_READ_ISSUE (06:R97, 06:R98): "When no template request waits, it takes rings". -/
def execRingReadIssue (s : State) : Host.Outcome State Fault Refusal :=
  .next (whenReleased (fun s =>
    if s.mayFetch && s.templateCandidate.isNone then
      match s.ringCandidate with
      | none => s
      | some n => s.issueRingRead n
    else s) s)

/-- The template read issued for entry `e`, "at the address held in the entry's template field at that moment"
(09:R144). -/
def State.issueTemplateRead (s : State) (e : Entry) : State :=
  (s.setEntry e { s.entry e with phase := .reading }).setRead (some (.template e (s.entry e).template))

/-- TEMPLATE_READ_ISSUE (06:R97, 06:R100, 09:R144). -/
def execTemplateReadIssue (s : State) : Host.Outcome State Fault Refusal :=
  .next (whenReleased (fun s =>
    if s.mayFetch then
      match s.templateCandidate with
      | none => s
      | some e => s.issueTemplateRead e
    else s) s)

/-! ### The answer to a ring read (06:R99, 06:R101 to 06:R103, 06:R114) -/

/-- The descriptor is staged: the slot is full, its time kept, and the ring in a state (06:R99). -/
def State.stage (s : State) (n : Ring) (d : Bytes) (q : RingState) : State :=
  s.setRing n { s.ring n with staging := some d, stagedAt := s.now, state := q }

/-- The ring state of a valid staged descriptor: BLOCKED for the queued kinds, STAGED until it is carried out for
the immediate kinds and FENCE (06:R93, 06:R99; log 8). -/
def stagedState (d : Bytes) : RingState :=
  if descKind d = Kind.measure.code ∨ descKind d = Kind.setBank.code then .blocked else .staged

/-- An OKAY answer: staged, checked, and dispatched or disposed of (06:R99, 06:R102, 06:R103). -/
def State.stageAnswer (s : State) (n : Ring) (d : Bytes) : State :=
  match checkDescriptor d with
  | some f => (s.stage n d .staged).formFetchRecord n (badDescriptorRecord n d s.now f)
  | none => s.stage n d (stagedState d)

/-- A bus error: ERROR, RING_ERROR, the status area and a FETCH_ERROR record (06:R114). -/
def State.ringError (s : State) (n : Ring) : State :=
  let r := s.ring n
  (((s.setRing n { r with state := .error, staging := none }).raise .ringError).writeStatus).pushRecord
    (fetchErrorRecord n (r.consumed.toNat % r.size) s.now)

/-- The answer to a ring read of ring `n`; in FAULTED and RESETTING it is discarded (06:R117). -/
def State.takeRingAnswer (s : State) (n : Ring) (a : ReadAnswer) : State :=
  if s.working && (s.ring n).state == .fetching then
    match a with
    | .okay d => s.stageAnswer n d
    | .busError => s.ringError n
  else s

/-- RING_READ_ANSWER (06:R99, 06:R114). -/
def execRingReadAnswer (a : ReadAnswer) (s : State) : Host.Outcome State Fault Refusal :=
  .next (whenReleased (fun s =>
    match s.hp.read with
    | some (.ring n _) => (s.setRead none).takeRingAnswer n a
    | _ => s) s)

/-! ### The answer to a template read (06:R100, 09:R144, 09:R145) -/

/-- A template error taken for entry `e`: OUTSTANDING with ending ERROR, and its record (06:R100, 09:R145). -/
def State.templateFails (s : State) (e : Entry) (tag : BitVec 16) (f : CheckFailure) : State :=
  (s.setEntry e { s.entry e with state := .outstanding, ending := .error }).pushRecord
    (templateErrorRecord e tag f s.now)

/-- The result of a template read is taken "when the entry is FETCHING with fetch phase READING" and otherwise
discarded (09:R144); in RESETTING the host port discards it (09:R150). -/
def State.takeTemplateAnswer (s : State) (e : Entry) (a : ReadAnswer) : State :=
  if s.working && (s.entry e).state == .fetching && (s.entry e).phase == .reading then
    match a with
    | .okay d =>
      match checkTemplate d with
      | none => s.setEntry e { s.entry e with state := .ready, held := some d }
      | some f => s.templateFails e (descTag d) f
    | .busError => s.templateFails e 0 { code := .templateBusError, position := 0 }
  else s

/-- TEMPLATE_READ_ANSWER (09:R145). -/
def execTemplateReadAnswer (a : ReadAnswer) (s : State) : Host.Outcome State Fault Refusal :=
  .next (whenReleased (fun s =>
    match s.hp.read with
    | some (.template e _) => (s.setRead none).takeTemplateAnswer e a
    | _ => s) s)

/-! ### The immediate kinds (06:R104, 06:R105) -/

/-- The descriptor of kind `k` that stands STAGED in ring `n`, while the fetch unit carries descriptors out: in
RUNNING and STOPPING (02:R24; log 14). -/
def State.stagedKind (s : State) (n : Ring) (k : Kind) : Option Bytes :=
  if s.working && (s.ring n).state == .staged then
    (s.ring n).staging.filter fun d => descKind d == k.code
  else none

/-- The INVALIDATE_REF record: SUCCESS, the descriptor's bank, and what the invalidate found (02:R35, 06:R106). -/
def State.invalidateRecord (s : State) (n : Ring) (d : Bytes) : Record :=
  { fetchRecord n d (s.ring n).stagedAt with
    bank := descBank d,
    detail := detailBytes (invalidateByte (descNames d .a) (s.ref (descBank d) .a))
      (invalidateByte (descNames d .b) (s.ref (descBank d) .b)) 0 0 }

/-- INVALIDATE_REF (02:R34, 02:R35, 06:R104). -/
def execInvalidateRef (n : Ring) (s : State) : Host.Outcome State Fault Refusal :=
  .next (whenReleased (fun s =>
    match s.stagedKind n .invalidateRef with
    | none => s
    | some d =>
      (s.invalidateNamed (descBank d) (descNames d)).formFetchRecord n (s.invalidateRecord n d)) s)

/-- The REPORT_REFS record: five slots, the eight copies (02:R39, 07:R120). -/
def State.reportRecord (s : State) (n : Ring) (d : Bytes) : Record :=
  { fetchRecord n d (s.ring n).stagedAt with slotCount := 5, snapshot := s.snapshot }

/-- REPORT_REFS (02:R39, 02:R40, 06:R104). -/
def execReportRefs (n : Ring) (s : State) : Host.Outcome State Fault Refusal :=
  .next (whenReleased (fun s =>
    match s.stagedKind n .reportRefs with
    | none => s
    | some d => s.formFetchRecord n (s.reportRecord n d)) s)

/-- The monitor after a SET_SUPPLY: APPLIED at once in OFF, pending otherwise (05:R90). -/
def SupplyMonitor.setParams (m : SupplyMonitor) (p : SupplyParams) : SupplyMonitor :=
  match m.state with
  | .off => ({ m with pendingParams := some p }).applyPending
  | .settling | .watching => { m with pendingParams := some p }

/-- The SET_SUPPLY record: the disposition and "the threshold level and settle time in force just after the
descriptor was taken" (05:R90). -/
def setSupplyRecord (n : Ring) (d : Bytes) (stagedAt : Time) (before after : SupplyMonitor) : Record :=
  { fetchRecord n d stagedAt with
    detail := detailBytes (dispositionCode (before.state == .off)) (BitVec.ofNat 8 after.level)
      (BitVec.ofNat 8 after.settleTime) 0 }

/-- SET_SUPPLY (05:R90, 06:R104). -/
def execSetSupply (n : Ring) (s : State) : Host.Outcome State Fault Refusal :=
  .next (whenReleased (fun s =>
    match s.stagedKind n .setSupply with
    | none => s
    | some d =>
      let m := s.sm.setParams { level := descLevel d, settleTime := descSupplySettle d }
      { s with sm := m }.formFetchRecord n (setSupplyRecord n d (s.ring n).stagedAt s.sm m)) s)

/-- The SET_SCHEDULE record: entry number and the state code before the claim (09:R141). -/
def setScheduleRecord (n : Ring) (d : Bytes) (stagedAt : Time) (before : SchedState) (ok : Bool) : Record :=
  { fetchRecord n d stagedAt with
    status := if ok then .success else .entryBusy,
    detail := detailBytes (BitVec.ofNat 8 (descEntry d).val) before.code 0 0 }

/-- SET_SCHEDULE (09:R140, 09:R141, 06:R105). -/
def execSetSchedule (n : Ring) (s : State) : Host.Outcome State Fault Refusal :=
  .next (whenReleased (fun s =>
    match s.stagedKind n .setSchedule with
    | none => s
    | some d =>
      (s.setScheduleClaim d).1.formFetchRecord n
        (setScheduleRecord n d (s.ring n).stagedAt (s.entry (descEntry d)).state (s.setScheduleClaim d).2)) s)

/-- The CLEAR_SCHEDULE record: entry number, state found, skipped count at the clear (09:R148). -/
def clearScheduleRecord (n : Ring) (d : Bytes) (stagedAt : Time) (x : SchedEntry) : Record :=
  { fetchRecord n d stagedAt with
    detail := detailBytes (BitVec.ofNat 8 (descEntry d).val) x.state.code (BitVec.ofNat 8 x.skipped) 0 }

/-- CLEAR_SCHEDULE (09:R148, 06:R105). -/
def execClearSchedule (n : Ring) (s : State) : Host.Outcome State Fault Refusal :=
  .next (whenReleased (fun s =>
    match s.stagedKind n .clearSchedule with
    | none => s
    | some d =>
      let x := s.entry (descEntry d)
      (s.setEntry (descEntry d) x.clear).formFetchRecord n
        (clearScheduleRecord n d (s.ring n).stagedAt x)) s)

/-! ### FENCE (06:R110) -/

/-- The FENCE record: start at staging, end "the time when the count reached 0", detail the count found. -/
def fenceRecord (n : Ring) (d : Bytes) (stagedAt now : Time) (count : Nat) : Record :=
  { fetchRecord n d stagedAt with endTime := now, detail := detailBytes (BitVec.ofNat 8 count) 0 0 0 }

/-- "When the outstanding count is 0, ... the fetch unit forms the FENCE record ... and the ring becomes POSTING"
(06:R110). -/
def State.releaseFence (s : State) (n : Ring) : State :=
  let r := s.ring n
  if r.state = .fenced ∧ r.outstanding = 0 then
    s.formFetchRecord n (fenceRecord n (r.staging.getD []) r.stagedAt s.now r.fenceCount)
  else s

/-- FENCE (06:R110): FENCED with the outstanding count recorded, and released at once if that count is 0. -/
def execFence (n : Ring) (s : State) : Host.Outcome State Fault Refusal :=
  .next (whenReleased (fun s =>
    match s.stagedKind n .fence with
    | none => s
    | some _ =>
      (s.setRing n
        { s.ring n with state := .fenced, fenceCount := (s.ring n).outstanding }).releaseFence n) s)

/-! ### Notices at a posting -/

/-- A record of a bank sequencer with a ring source is posted: the outstanding count falls and a FENCE may be
released (06:R109, 06:R110). -/
def State.outstandingFalls (s : State) (n : Ring) : State :=
  (s.setRing n { s.ring n with outstanding := (s.ring n).outstanding - 1 }).releaseFence n

/-- A ring's slot is finished with: staging empty, consumed advanced, status area written, IDLE (06:R108). The
write is issued with the ring already IDLE, and carries that state code (DESIGN CHOICE, log 25). -/
def State.finishSlot (s : State) (n : Ring) : State :=
  (s.setRing n
    { s.ring n with staging := none, consumed := (s.ring n).consumed + 1, state := .idle }).writeStatus

/-- The notice of a posted record of the fetch unit (06:R108). -/
def State.fetchPosted (s : State) (r : Record) : State :=
  let t := { s with fu := { s.fu with posting := s.fu.posting.tail } }
  match r.status, r.source with
  | .fetchError, _ => t
  | _, .ring n => t.finishSlot n
  | _, .schedule _ => t

end Sys2Proof.Machine
end

