-- ==== Sys2Proof/Machine/Admission.lean ====
section
/-! DEFINITION. Admission into a bank queue (03 section 3.2), and the takes of a MEASURE and of a SET_BANK. -/
namespace Sys2Proof.Machine

open Sys2Proof

/-- A candidate of bank `b`'s arbiter (03:R45). -/
inductive Candidate where
  | schedule (e : Entry) (d : Bytes)
  | ring (n : Ring) (d : Bytes)
  deriving DecidableEq, Repr

/-- The descriptor a candidate offers. -/
def Candidate.desc : Candidate → Bytes
  | .schedule _ d => d
  | .ring _ d => d

/-- The source written to the queue entry (03:R44). -/
def Candidate.source : Candidate → Source
  | .schedule e _ => .schedule e
  | .ring n _ => .ring n

/-- Entry `e` in READY whose held template names bank `b` (03:R45). -/
def State.scheduleOffers (s : State) (b : Bank) (e : Entry) : Option Candidate :=
  if (s.entry e).state = .ready then
    ((s.entry e).held.filter fun d => descBank d == b).map (Candidate.schedule e)
  else none

/-- Ring `n` in BLOCKED whose descriptor names bank `b` (03:R45). -/
def State.ringOffers (s : State) (b : Bank) (n : Ring) : Option Candidate :=
  if (s.ring n).state = .blocked then
    ((s.ring n).staging.filter fun d => descBank d == b).map (Candidate.ring n)
  else none

/-- The candidate the arbiter of bank `b` chooses: READY entries, lowest first, then the rings in round robin from
the last admitted ring (03:R45). -/
def State.chooseCandidate (s : State) (b : Bank) : Option Candidate :=
  ((List.finRange 8).findSome? (s.scheduleOffers b)).orElse fun _ =>
    (roundRobin (s.bank b).lastAdmitted).findSome? (s.ringOffers b)

/-- The arbiter grants "whenever the controller is RUNNING or STOPPING, the queue holds fewer than 4 entries, and
at least one candidate waits" (03:R45). -/
def State.grantable (s : State) (b : Bank) : Option Candidate :=
  if s.working && decide ((s.bank b).queue.length < 4) then s.chooseCandidate b else none

/-- The owner's part of an admission (03:R46, 06:R103, 09:R146). The status-area write is issued with the ring
already IDLE, and carries that state code (DESIGN CHOICE, log 25). -/
def State.admitAtOwner (s : State) (b : Bank) : Candidate → State
  | .schedule e _ => s.setEntry e { s.entry e with state := .outstanding, held := none }
  | .ring n _ =>
    let t := (s.setRing n
      { s.ring n with
        staging := none, consumed := (s.ring n).consumed + 1, outstanding := (s.ring n).outstanding + 1,
        state := .idle }).writeStatus
    t.setBank b { t.bank b with lastAdmitted := n }

/-- The bank queue's part: "the descriptor joins at the tail with its source and flushed 0" (03:R46). -/
def State.joinQueue (s : State) (b : Bank) (c : Candidate) : State :=
  s.setBank b { s.bank b with
    queue := (s.bank b).queue ++ [{ desc := c.desc, source := c.source, flushed := false }] }

/-- An admission: both parts, and the take if the sequencer is IDLE (03:R46). -/
def State.admitCandidate (s : State) (b : Bank) (c : Candidate) : State :=
  let t := (s.admitAtOwner b c).joinQueue b c
  if (s.bank b).seq = .idle then t.takeHead b else t

/-- ADMISSION (03:R46). -/
def execAdmission (b : Bank) (s : State) : Host.Outcome State Fault Refusal :=
  .next (whenReleased (fun s =>
    match s.grantable b with
    | none => s
    | some c => s.admitCandidate b c) s)

/-- The IDLE sequencer's next descriptor: its queue head, or, with the queue empty, the candidate whose admission
it takes at once (03:R46, 03:R51; log 7). The sequencers run their descriptors in RUNNING and STOPPING
(02:R24). -/
def State.nextTake (s : State) (b : Bank) : Option QueueEntry :=
  if s.working ∧ (s.bank b).seq = .idle then
    match (s.bank b).queue with
    | q :: _ => some q
    | [] => (s.grantable b).map fun c => { desc := c.desc, source := c.source, flushed := false }
  else none

/-- The take of that descriptor, with its admission when it comes with one. -/
def State.takeNext (s : State) (b : Bank) : State :=
  match (s.bank b).queue with
  | _ :: _ => s.takeHead b
  | [] =>
    match s.grantable b with
    | none => s
    | some c => s.admitCandidate b c

/-- The next take is of an unflushed MEASURE on an enabled bank (03:R51, 03:R54). -/
def State.measureNext (s : State) (b : Bank) : Bool :=
  (s.bank b).enabled &&
  match s.nextTake b with
  | none => false
  | some q => !q.flushed && descKind q.desc == Kind.measure.code

/-- The next take is of an unflushed SET_BANK (03:R49, 03:R51). -/
def State.setBankNext (s : State) (b : Bank) : Bool :=
  match s.nextTake b with
  | none => false
  | some q => !q.flushed && descKind q.desc == Kind.setBank.code

/-- MEASURE (03:R54): the IDLE sequencer takes a MEASURE on an enabled bank (log 7). -/
def execMeasure (b : Bank) (s : State) : Host.Outcome State Fault Refusal :=
  .next (whenReleased (fun s => if s.measureNext b then s.takeNext b else s) s)

/-- SET_BANK (03:R49): the IDLE sequencer takes a SET_BANK (log 7). -/
def execSetBank (b : Bank) (s : State) : Host.Outcome State Fault Refusal :=
  .next (whenReleased (fun s => if s.setBankNext b then s.takeNext b else s) s)

end Sys2Proof.Machine
end

