-- ==== Sys2Proof/Machine/Grants.lean ====
section
/-! DEFINITION. The settle end of the supply monitor with its grants (05:R86), and the messages in flight
(log 6). -/
namespace Sys2Proof.Machine

open Sys2Proof

/-- The hold set at the settle end: "Every holder in the set becomes GRANTED"; every low-seen flag starts at 0 if
the comparator reads HIGH (05:R86), and at 1 if it reads LOW (05:R88, 05:R89). -/
def SupplyMonitor.grantAll (m : SupplyMonitor) : SupplyMonitor :=
  { m with
    state := .watching,
    holders := mapAll (fun h : Option Holder => h.map fun _ =>
      { status := .granted, lowSeen := m.reading == some .low }) m.holders }

/-- The grant sent to BSb at the settle end, with its notice when the comparator reads LOW (05:R86, 05:R89). -/
def State.grantAtSettleEnd (s : State) (b : Bank) : State :=
  if (s.holder b).isSome then s.grantHolder b else s

/-- The settle end (05:R86): WATCHING, grants to every holder, and a low transition if the comparator reads LOW:
flags (set with the grant), notices (with each grant) and the SUPPLY_LOW cause. -/
def State.supplySettleEnd (s : State) : State :=
  if s.sm.settleEndDue then
    let t := { s with sm := s.sm.grantAll }
    ((List.finRange 4).foldl State.grantAtSettleEnd t).raiseIf t.readsLow .supplyLow
  else s

/-! ### Messages in flight: each is taken before the next tick counts (DESIGN CHOICE, log 6) -/

/-- A grant to BSb is in flight: its hold is GRANTED and it is still in STARTING. A grant that reaches BSb in
RESETTING is disregarded (03:R68, 10:R162). -/
def State.grantDue (s : State) (b : Bank) : Bool :=
  s.working && (s.bank b).seq == .starting && s.holdGranted b

/-- The grant in flight to BSb, if there is one, is taken. -/
def State.deliverGrant (s : State) (b : Bank) : State := if s.grantDue b then s.takeGrant b else s

/-- The messages in flight of bank `b` are taken: its notice, the end of its MEASURE, its grant. -/
def State.deliverBank (s : State) (b : Bank) : State := ((s.deliverNotice b).deliverEnd b).deliverGrant b

/-- Every message in flight is taken. -/
def State.deliverAll (s : State) : State := (List.finRange 4).foldl State.deliverBank s

/-- A message of bank `b` is in flight. -/
def State.messageDue (s : State) (b : Bank) : Bool :=
  s.refs[b].noticeDue || (s.endInFlight b).isSome || s.grantDue b

/-- Each message in flight of bank `b` is taken, or not yet, as the free value says. -/
def State.deliverSome (s : State) (b : Bank) : State :=
  if s.messageDue b then
    let t := { s with draws := s.draws + 3 }
    let u := if Config.arrivesNow s.draws then t.deliverNotice b else t
    let v := if Config.arrivesNow (s.draws + 1) then u.deliverEnd b else u
    if Config.arrivesNow (s.draws + 2) then v.deliverGrant b else v
  else s

/-- SUPPLY_SETTLE_END (05:R86). With no settle end due it is the later part of one: the messages still in flight may
arrive (log 6). -/
def execSupplySettleEnd (s : State) : Host.Outcome State Fault Refusal :=
  .next (whenReleased (fun s =>
    if s.sm.settleEndDue then s.supplySettleEnd else (List.finRange 4).foldl State.deliverSome s) s)

end Sys2Proof.Machine
end

