-- ==== Sys2Proof/Machine/Clock.lean ====
section
/-! DEFINITION. A tick of the conversion clock (01:R6 to 01:R11, 05:R86, 11:R169, 12:R174). -/
namespace Sys2Proof.Machine

open Sys2Proof

/-- The expiries of CCb that are due (01:R6, 01:R7, 01:R10, 01:R12). At most one is. -/
def State.dueAtCell (s : State) (b : Bank) : State :=
  match (s.cell b).state with
  | .stopped => s
  | .settling => s.settleExpiry b
  | .awaitEdge => s.startTimeoutExpiry b
  | .refWindow => s.refWindowTimeout b
  | .senseWindow => s.senseClose b

/-- The expiry of entry `e`, if due (09:R142). -/
def State.dueAtEntry (s : State) (e : Entry) : State := if s.expiryDue e then s.expire e else s

/-- Every expiry that is due and was not commanded is taken before time goes on: the cells, the settle end, the
schedule entries (log 3). -/
def State.takeDue (s : State) : State :=
  (List.finRange 8).foldl State.dueAtEntry ((List.finRange 4).foldl State.dueAtCell s).supplySettleEnd

/-- The microsecond counter steps, and with it the monitor's settle timer in SETTLING (05:R86, 11:R169). -/
def State.stepMicros (s : State) : State :=
  { s with
    tb := { micros := s.tb.micros + 1, prescaler := 0 },
    sm := if s.sm.state = .settling then { s.sm with settleTimer := s.sm.settleTimer + 1 } else s.sm }

/-- "the counter steps by one every 32 conversion-clock ticks" (11:R169). -/
def State.tickTimeBase (s : State) : State :=
  if ticksPerMicro ≤ s.tb.prescaler + 1 then s.stepMicros
  else { s with tb := { s.tb with prescaler := s.tb.prescaler + 1 } }

/-- Each cell's gate timer advances (01:R6, 01:R7, 01:R8, 01:R11). -/
def State.tickCells (s : State) : State := { s with cells := mapAll Cell.tick s.cells }

/-- One tick; the messages in flight are taken before time goes on (log 6). -/
def State.tick (s : State) : State := s.takeDue.deliverAll.tickCells.tickTimeBase

/-- CONVERSION_CLOCK_TICK (11:R169, 12:R174). While RESET_N is asserted the counter is held at 0. -/
def execConversionClockTick (s : State) : Host.Outcome State Fault Refusal :=
  .next (whenReleased State.tick s)

end Sys2Proof.Machine
end

