-- ==== Sys2Proof/Machine/Faults.lean ====
section
/-! DEFINITION. Fatal faults: the report, entry to FAULTED and each block's part (10:R159 to 10:R161), and the answer
to a status-area write (06:R113). -/
namespace Sys2Proof.Machine

open Sys2Proof

/-- A ring at entry to FAULTED: staging emptied, outstanding 0, busy rings IDLE, indices kept (06:R117). -/
def SubRing.fault (r : SubRing) : SubRing :=
  { r with staging := none, outstanding := 0, state := if r.state.busy then .idle else r.state }

/-- A bank sequencer at entry to FAULTED: context discarded, queue emptied, IDLE; parameters kept (03:R68). -/
def BankSeq.fault (k : BankSeq) : BankSeq := { k with queue := [], seq := .idle, context := none }

/-- The completion writer at entry to FAULTED: "The grant becomes NONE and the granted record is dropped"
(08:R137). -/
def CompletionWriter.fault (w : CompletionWriter) : CompletionWriter := { w with grant := .none, granted := none }

/-- Every cell is given a stop (01:R17). -/
def State.stopCells (s : State) : State := { s with cells := mapAll Cell.stop s.cells }

/-- Each block's part of entry to FAULTED (10:R161). -/
def State.faultBlocks (s : State) : State :=
  { s.stopCells.faultRefs with
    banks := mapAll BankSeq.fault s.banks, sm := s.sm.clearHolds, rings := mapAll SubRing.fault s.rings,
    fu := { s.fu with posting := [] }, cw := s.cw.fault, sched := mapAll SchedEntry.fault s.sched }

/-- The first fatal fault: latched, FAULTED, each block's part, the FAULT cause (10:R159). -/
def State.enterFaulted (s : State) (code : FaultCode) (addr : BitVec 16) : State :=
  let t := s.faultBlocks
  ({ t with cu := { t.cu with state := .faulted, faultCode := code, faultAddr := addr, subsequent := 0 } }
    ).raise .fault

/-- The largest subsequent count (10:R151). -/
def subsequentMax : Nat := 15

/-- A fault report reaches the control unit: the first is taken by 10:R159, one in FAULTED is counted by 10:R160,
and in RESETTING "no fault is reported" (10:R162). -/
def State.reportFault (s : State) (code : FaultCode) (addr : BitVec 16) : State :=
  match s.cu.state with
  | .loading | .running | .stopping => s.enterFaulted code addr
  | .faulted => { s with cu := { s.cu with subsequent := min (s.cu.subsequent + 1) subsequentMax } }
  | .off | .stopped | .resetting => s

/-- STATUS_WRITE_ANSWER (06:R113). -/
def execStatusWriteAnswer (a : WriteAnswer) (s : State) : Host.Outcome State Fault Refusal :=
  .next (whenReleased (fun s =>
    match takeWrite .status 0 s.hp.writes with
    | none => s
    | some (w, ws) =>
      match a with
      | .okay => s.setWrites ws
      | .busError => (s.setWrites ws).reportFault .statusWriteError (w.addr.setWidth 16)) s)

end Sys2Proof.Machine
end

