-- ==== Sys2Proof/Machine/Completion.lean ====
section
/-! DEFINITION. The completion writer (chapter 8): requests, the grant, space and the stall, the writes, posting with
its notices, and CQ_HEAD. -/
namespace Sys2Proof.Machine

open Sys2Proof

/-! ### Requests (08:R125) -/

/-- The record a requester has in request: a sequencer's in POSTING, the oldest of the posting list (08:R125). -/
def State.request (s : State) : Requester → Option Record
  | .bs b =>
    if (s.bank b).seq = .posting then (s.bank b).context.bind fun x => x.record else none
  | .fu => s.fu.posting.head?

/-- The cyclic order BS0, BS1, BS2, BS3, FU from a requester on (08:R126). -/
def cyclicFrom : Requester → List Requester
  | .bs 0 => [.bs 0, .bs 1, .bs 2, .bs 3, .fu]
  | .bs 1 => [.bs 1, .bs 2, .bs 3, .fu, .bs 0]
  | .bs 2 => [.bs 2, .bs 3, .fu, .bs 0, .bs 1]
  | .bs 3 => [.bs 3, .fu, .bs 0, .bs 1, .bs 2]
  | .fu => [.fu, .bs 0, .bs 1, .bs 2, .bs 3]

/-- "the requester after the one granted, in the cyclic order" (08:R130). -/
def requesterAfter : Requester → Requester
  | .bs 0 => .bs 1
  | .bs 1 => .bs 2
  | .bs 2 => .bs 3
  | .bs 3 => .fu
  | .fu => .bs 0

/-- The requester granted next, with its record: the first with a request from the pointer on (08:R126). -/
def State.nextRequest (s : State) : Option Granted :=
  (cyclicFrom s.cw.pointer).findSome? fun q =>
    (s.request q).map fun r => { requester := q, record := r }

/-- Some request is present. -/
def State.anyRequest (s : State) : Bool := s.nextRequest.isSome

/-! ### Space (08:R127), phase (08:R124) -/

/-- Used slots: (tail − head) mod 65,536 (08:R127). -/
def CompletionWriter.used (w : CompletionWriter) : Nat := (w.tail - w.head).toNat

/-- The free space of the ring (08:R127). -/
def CompletionWriter.free (w : CompletionWriter) : Nat := w.size - w.used

/-- The phase of the slot named by index `i`: "1 when floor(i / CQ size) is even" (08:R124). -/
def phaseOfIndex (size : Nat) (i : Index) : Bool := i.toNat / size % 2 == 0

/-- The phase carried by slot `j` of a record at the tail: the phase field in the same pass, its inverse in the
next (08:R129). -/
def CompletionWriter.slotPhase (w : CompletionWriter) (j : Nat) : Bool :=
  if w.tail.toNat % w.size + j < w.size then w.phase else !w.phase

/-- The address of slot `j` of a record at the tail: CQ base + (i mod CQ size) × 32 (08:R129). -/
def CompletionWriter.slotAddr (w : CompletionWriter) (j : Nat) : Addr :=
  addressSum w.base ((w.tail + BitVec.ofNat 16 j).toNat % w.size * 32)

/-! ### Writes (08:R129) -/

/-- The 32-byte write of slot `j` of a record. -/
def CompletionWriter.slotWrite (w : CompletionWriter) (kind : WriteKind) (r : Record) (j : Nat) : BusWrite :=
  { kind := kind, addr := w.slotAddr j, bytes := r.slotBytes j (w.slotPhase j) }

/-- The header slot is issued and the grant is HEADER (08:R129). -/
def State.issueHeader (s : State) (r : Record) : State :=
  let t := s.issueWrite (s.cw.slotWrite .header r 0)
  { t with cw := { t.cw with grant := .header } }

/-- The writes of the granted record: the following slots in order of j, and the header at once for a one-slot
record (08:R125, 08:R129). -/
def State.issueRecord (s : State) (r : Record) : State :=
  if r.slotCount ≤ 1 then s.issueHeader r
  else
    let ws := (List.range (r.slotCount - 1)).map fun j => s.cw.slotWrite .following r (j + 1)
    { s with hp := { s.hp with writes := s.hp.writes ++ ws }, cw := { s.cw with grant := .writing } }

/-- The space check of 08:R127: writes if the record fits. -/
def State.spaceCheck (s : State) (r : Record) : Option State :=
  if r.slotCount ≤ s.cw.free then some (s.issueRecord r) else none

/-- CQ_GRANT (08:R126, 08:R127, 08:R128). -/
def State.grantNext (s : State) : State :=
  if s.working && s.cw.grant == .none then
    match s.nextRequest with
    | none => s
    | some g =>
      let t := { s with cw := { s.cw with granted := some g } }
      match t.spaceCheck g.record with
      | some u => u
      | none => ({ t with cw := { t.cw with grant := .stalled } }).raise .cqStall
  else s

/-- CQ_GRANT (08:R126). -/
def execCqGrant (s : State) : Host.Outcome State Fault Refusal := .next (whenReleased State.grantNext s)

/-! ### Posting (08:R130, 08:R131, 08:R133) -/

/-- The tail, phase, pointer and grant at a posting (08:R130). -/
def CompletionWriter.post (w : CompletionWriter) (g : Granted) : CompletionWriter :=
  let tail := w.tail + BitVec.ofNat 16 g.record.slotCount
  { w with
    tail := tail, phase := phaseOfIndex w.size tail, pointer := requesterAfter g.requester,
    grant := .none, granted := none }

/-- The notice to the fetch unit or the scan scheduler for a record of a bank sequencer (08:R131). -/
def State.sourceNotice (s : State) : Source → State
  | .ring n => s.outstandingFalls n
  | .schedule e => s.setEntry e (s.entry e).posted

/-- The notice to the scan scheduler for a record of the fetch unit: only a TEMPLATE_ERROR record has one
(08:R131). -/
def State.errorNotice (s : State) : Source → State
  | .ring _ => s
  | .schedule e => s.setEntry e (s.entry e).posted

/-- The notices of 08:R131: they "reach different blocks and different state, and need no order". -/
def State.postingNotices (s : State) (g : Granted) : State :=
  match g.requester with
  | .bs b => (s.sourceNotice g.record.source).sequencerPosted b
  | .fu => (s.fetchPosted g.record).errorNotice g.record.source

/-- A record is posted (08:R130), with its causes (08:R133). -/
def State.postRecord (s : State) (g : Granted) : State :=
  let t := { s with cw := s.cw.post g }
  ((t.raiseIf g.record.flags.notify .completion).raiseIf g.record.flags.limitHit .limit).postingNotices g

/-! ### Answers to slot writes -/

/-- Following-slot writes in flight. -/
def HostPort.followingInFlight (h : HostPort) : Bool := h.writes.any fun w => w.kind == .following

/-- "writes awaiting answer": the slot writes in flight while a record holds the grant (08:R123; log 15). -/
def State.writesAwaiting (s : State) : Nat :=
  if s.cw.grant = .none then 0
  else (s.hp.writes.filter fun w => w.kind != .status).length

/-- The header is issued "once every following slot has been answered OKAY" (08:R129). -/
def State.afterFollowing (s : State) : State :=
  if s.working && s.cw.grant == .writing && !s.hp.followingInFlight then
    match s.cw.granted with
    | none => s
    | some g => s.issueHeader g.record
  else s

/-- FOLLOWING_SLOT_WRITE_ANSWER (08:R129, 08:R136). -/
def execFollowingSlotWriteAnswer (k : Nat) (a : WriteAnswer) (s : State) : Host.Outcome State Fault Refusal :=
  .next (whenReleased (fun s =>
    match takeWrite .following k s.hp.writes with
    | none => s
    | some (w, ws) =>
      match a with
      | .okay => (s.setWrites ws).afterFollowing
      | .busError => (s.setWrites ws).reportFault .cqWriteError (w.addr.setWidth 16)) s)

/-- The OKAY answer to the header of the granted record posts it (08:R130); after a fault or in RESETTING it is
discarded (08:R137). -/
def State.afterHeader (s : State) : State :=
  if s.working && s.cw.grant == .header then
    match s.cw.granted with
    | none => s
    | some g => s.postRecord g
  else s

/-- HEADER_WRITE_ANSWER (08:R130, 08:R136). -/
def execHeaderWriteAnswer (a : WriteAnswer) (s : State) : Host.Outcome State Fault Refusal :=
  .next (whenReleased (fun s =>
    match takeWrite .header 0 s.hp.writes with
    | none => s
    | some (w, ws) =>
      match a with
      | .okay => (s.setWrites ws).afterHeader
      | .busError => (s.setWrites ws).reportFault .cqWriteError (w.addr.setWidth 16)) s)

/-! ### CQ_HEAD (08:R134) -/

/-- The acceptance test but for the controller state: "(h − head) mod 65,536 ≤ (tail − head) mod 65,536". -/
def CompletionWriter.acceptsHead (w : CompletionWriter) (h : Index) : Bool :=
  decide ((h - w.head).toNat ≤ w.used)

/-- A stalled record is tested again with the new head; "CQ_STALL is not set again" (08:R128). -/
def State.retestStall (s : State) : State :=
  if s.cw.grant = .stalled then
    match s.cw.granted with
    | none => s
    | some g => (s.spaceCheck g.record).getD s
  else s

/-- A write to CQ_HEAD (08:R134). -/
def State.writeCqHead (s : State) (v : BitVec 32) : State :=
  match s.cu.state with
  | .resetting => s
  | .running | .stopping | .stopped =>
    if s.cw.acceptsHead (cqHeadValue v) then
      { s with cw := { s.cw with head := cqHeadValue v } }.retestStall
    else s.raise .hostError
  | .off | .loading | .faulted => s.raise .hostError

/-- CQ_HEAD (08:R134). -/
def execCqHead (v : BitVec 32) (s : State) : Host.Outcome State Fault Refusal :=
  .next (whenReleased (fun s => s.writeCqHead v) s)

end Sys2Proof.Machine
end

