-- ==== Sys2Proof/Machine/LifeCycle.lean ====
section
/-! DEFINITION. The control unit (chapter 10): CONTROL, the setup address, LOADING, STOPPING, STOPPED, soft and
hardware reset. -/
namespace Sys2Proof.Machine

open Sys2Proof

/-! ### Reset values (10:R163) -/

/-- Every block at its reset values. The pins, the model's own fields and the queue of commands are kept. -/
def State.resetBlocks (s : State) : State :=
  { State.reset with avdd := s.avdd, resetAsserted := s.resetAsserted, draws := s.draws, pending := s.pending }

/-! ### LOADING (10:R153 to 10:R155) -/

/-- Entry to LOADING from OFF or STOPPED (10:R152, 10:R153): the setup read is issued, or, for an address that is
not a multiple of 64, SETUP_INVALID is taken. -/
def State.enterLoading (s : State) (from_ : ReturnState) : State :=
  let t := { s with cu := { s.cu with
    state := .loading, enable := true, returnState := from_, loadAbandoned := false } }
  if s.cu.setupAddr.toNat % 64 = 0 then
    { t with hp := { t.hp with setupRead := some s.cu.setupAddr } }
  else t.reportFault .setupInvalid (s.cu.setupAddr.setWidth 16)

/-- A ring configured from the setup block (06:R94). -/
def SubRing.configure (r : SubRing) (d : Bytes) (n : Ring) : SubRing :=
  if setupSqExponent d n = 0 then
    { r with state := .disabled, base := 0, size := 0, tail := 0, consumed := 0, outstanding := 0 }
  else
    { r with
      state := .idle, base := setupSqBase d n, size := 2 ^ setupSqExponent d n, tail := 0, consumed := 0,
      outstanding := 0 }

/-- The completion writer configured from the setup block (08:R123). -/
def CompletionWriter.configure (w : CompletionWriter) (d : Bytes) : CompletionWriter :=
  { w with
    base := setupCqBase d, size := 2 ^ setupCqExponent d, tail := 0, head := 0, phase := true, pointer := .bs 0 }

/-- A valid setup block ends LOADING in RUNNING, and each block takes its part (10:R155). -/
def State.endLoading (s : State) (d : Bytes) : State :=
  ({ s with
    cu := { s.cu with state := .running },
    rings := Vector.ofFn (fun n => (s.ring n).configure d n),
    fu := { s.fu with lastFetched := 3, statusAddr := setupStatusAddr d },
    cw := s.cw.configure d,
    banks := mapAll (fun k => { k with lastAdmitted := 3 }) s.banks,
    sched := mapAll (fun x => x.restart s.now) s.sched } : State).writeStatus

/-- The state an abandoned load returns to (10:R153). -/
def ReturnState.control : ReturnState → ControllerState
  | .off => .off
  | .stopped => .stopped

/-- The answer to the setup read, taken in LOADING according to load abandoned (10:R153, 10:R154). DESIGN CHOICE (log
29): an abandoned load that returns to STOPPED sets no cause, as 10:R153 says, though 11:R164 and 11:R168 set STOPPED at
each entry to STOPPED; unsafe. -/
def State.takeSetupAnswer (s : State) (a : ReadAnswer) : State :=
  if s.cu.state = .loading then
    if s.cu.loadAbandoned then
      { s with cu := { s.cu with state := s.cu.returnState.control, enable := false } }
    else
      match a with
      | .busError => s.reportFault .setupReadError (s.cu.setupAddr.setWidth 16)
      | .okay d =>
        match setupFailure d with
        | some off => s.reportFault .setupInvalid (s.cu.setupAddr.setWidth 16 + BitVec.ofNat 16 off)
        | none => s.endLoading d
  else s

/-- SETUP_READ_ANSWER (10:R153). In RESETTING the answer is discarded (10:R162). -/
def execSetupReadAnswer (a : ReadAnswer) (s : State) : Host.Outcome State Fault Refusal :=
  .next (whenReleased (fun s =>
    match s.hp.setupRead with
    | none => s
    | some _ => { s with hp := { s.hp with setupRead := none } }.takeSetupAnswer a) s)

/-! ### STOPPING and STOPPED (10:R157, 10:R158) -/

/-- A ring is IDLE, DISABLED or ERROR (06:R116). -/
def RingState.atRest : RingState → Bool
  | .idle | .disabled | .error => true
  | .fetching | .staged | .blocked | .posting | .fenced => false

/-- The four conditions of 10:R158. -/
def State.drained (s : State) : Bool :=
  s.hp.read.isNone && s.fu.posting.isEmpty && allPass (fun r => r.state.atRest) s.rings &&
  allPass (fun k => k.queue.isEmpty && k.seq == .idle) s.banks &&
  s.cw.grant == .none && !s.anyRequest &&
  s.hp.setupRead.isNone && s.hp.writes.isEmpty

/-- Entry to STOPPED sets the STOPPED cause (10:R158). -/
def State.enterStopped (s : State) : State := (s.setControl .stopped).raise .stopped

/-- The report that completes the drain, if it is complete (10:R158). -/
def State.drainIfComplete (s : State) : State :=
  if s.cu.state = .stopping ∧ s.drained = true then s.enterStopped else s

/-- Entry to STOPPING (10:R157, 09:R149); "If all hold at the entry to STOPPING, STOPPED follows at once"
(10:R158). -/
def State.enterStopping (s : State) : State :=
  { s with
    cu := { s.cu with state := .stopping, enable := false },
    sched := mapAll SchedEntry.stop s.sched }.drainIfComplete

/-- DRAIN_COMPLETE (10:R158). -/
def execDrainComplete (s : State) : Host.Outcome State Fault Refusal :=
  .next (whenReleased State.drainIfComplete s)

/-! ### CONTROL (10:R152) -/

/-- `s` with enable set. -/
def State.setEnable (s : State) (on : Bool) : State := { s with cu := { s.cu with enable := on } }

/-- A write to CONTROL with SOFT_RESET 0: the table of 10:R152. -/
def State.writeEnable (s : State) (on : Bool) : State :=
  match s.cu.state with
  | .off => if on then s.enterLoading .off else s
  | .loading => { s with cu := { s.cu with enable := on, loadAbandoned := !on } }
  | .running => if on then s else s.enterStopping
  | .stopping => if on then s.raise .hostError else s
  | .stopped => if on then s.enterLoading .stopped else s
  | .faulted => if on then s.raise .hostError else s.setEnable false
  | .resetting => s

/-- ENABLE (10:R152). -/
def execEnable (on : Bool) (s : State) : Host.Outcome State Fault Refusal :=
  .next (whenReleased (fun s => s.writeEnable on) s)

/-! ### Soft and hardware reset (10:R162, 10:R163) -/

/-- Entry to RESETTING: cells stopped, hold set cleared, nothing new started (10:R162). -/
def State.enterResetting (s : State) : State :=
  ({ s.stopCells with sm := s.sm.clearHolds }).setControl .resetting

/-- "When the last answer has been received in RESETTING ..., every block takes its reset values and the
controller enters OFF" (10:R163). -/
def State.resetIfQuiet (s : State) : State :=
  if s.cu.state = .resetting ∧ s.hp.inFlight = 0 then s.resetBlocks else s

/-- A write to CONTROL with SOFT_RESET 1, "whatever its ENABLE value" (10:R152, 10:R162): the reset completes "at
once when none was in flight" (10:R163; log 13). -/
def State.writeSoftReset (s : State) (_on : Bool) : State :=
  if s.cu.state = .resetting then s else s.enterResetting.resetIfQuiet

/-- SOFT_RESET (10:R162). -/
def execSoftReset (on : Bool) (s : State) : Host.Outcome State Fault Refusal :=
  .next (whenReleased (fun s => s.writeSoftReset on) s)

/-- SOFT_RESET_COMPLETE (10:R163). -/
def execSoftResetComplete (s : State) : Host.Outcome State Fault Refusal :=
  .next (whenReleased State.resetIfQuiet s)

/-- RESET_N_ASSERTED: "The same values are taken at once by a hardware reset, when RESET_N is asserted, in any
state"; transactions in flight are abandoned (10:R163). -/
def execResetNAsserted (s : State) : Host.Outcome State Fault Refusal :=
  .next { s.resetBlocks with resetAsserted := true }

/-- RESET_N_RELEASED: the controller is OFF and the time base counts from 0 (11:R169, 12:R174). -/
def execResetNReleased (s : State) : Host.Outcome State Fault Refusal := .next { s with resetAsserted := false }

/-! ### The setup address (10:R156) -/

/-- Writes to the setup address are accepted in OFF and STOPPED, ignored in RESETTING and refused otherwise
(10:R156). -/
def State.writeSetupAddr (s : State) (addr : Addr) : State :=
  match s.cu.state with
  | .off | .stopped => { s with cu := { s.cu with setupAddr := addr } }
  | .loading | .running | .stopping | .faulted => s.raise .hostError
  | .resetting => s

/-- A write to SETUP_ADDR_LO. -/
def State.writeSetupAddrLo (s : State) (v : BitVec 32) : State :=
  s.writeSetupAddr (s.cu.setupAddr.extractLsb' 32 32 ++ v)

/-- A write to SETUP_ADDR_HI. -/
def State.writeSetupAddrHi (s : State) (v : BitVec 32) : State :=
  s.writeSetupAddr (v ++ s.cu.setupAddr.extractLsb' 0 32)

/-- SETUP_ADDR_LO (10:R156). -/
def execSetupAddrLo (v : BitVec 32) (s : State) : Host.Outcome State Fault Refusal :=
  .next (whenReleased (fun s => s.writeSetupAddrLo v) s)

/-- SETUP_ADDR_HI (10:R156). -/
def execSetupAddrHi (v : BitVec 32) (s : State) : Host.Outcome State Fault Refusal :=
  .next (whenReleased (fun s => s.writeSetupAddrHi v) s)

end Sys2Proof.Machine
end

