-- ==== Sys2Proof/Machine/Window.lean ====
section
/-! DEFINITION. How the register port decodes an access (12:R171). -/
namespace Sys2Proof.Machine

/-- The word of the register window an access reaches: "The register port decodes bits 5 to 2 of the
access offset"; bits 1 and 0 are not decoded (12:R171). -/
def windowWord (offset : BitVec 6) : Nat := (offset >>> 2).toNat

/-- The words no write reaches: IDENT (0x00), STATE (0x08) and the unused words 0x28 to 0x3C (12:R171). -/
def writeIsIgnored (w : Nat) : Bool := w == 0 || w == 2 || decide (10 ≤ w)

/-- "A write is taken only when it enables all four byte lanes" (12:R171). -/
def allLanes (lanes : BitVec 4) : Bool := lanes == 0b1111

end Sys2Proof.Machine
end

