-- ==== Sys2Proof/Machine/Registers.lean ====
section
/-! DEFINITION. The event registers (chapter 11) and the register window (chapter 12): every word's write and read. -/
namespace Sys2Proof.Machine

open Sys2Proof

/-! ### EVENT_CAUSE and EVENT_MASK -/

/-- A write to EVENT_CAUSE "clears each flag whose bit in the written value is 1"; ignored in RESETTING
(11:R165). -/
def State.writeEventCause (s : State) (v : BitVec 32) : State :=
  if s.cu.state = .resetting then s
  else { s with eu := { s.eu with cause := s.eu.cause &&& ~~~(eventBits v) } }

/-- A write to EVENT_MASK "replaces all nine bits with the written value"; ignored in RESETTING (11:R166). -/
def State.writeEventMask (s : State) (v : BitVec 32) : State :=
  if s.cu.state = .resetting then s else { s with eu := { s.eu with mask := eventBits v } }

/-- EVENT_CAUSE (11:R165). -/
def execEventCause (v : BitVec 32) (s : State) : Host.Outcome State Fault Refusal :=
  .next (whenReleased (fun s => s.writeEventCause v) s)

/-- EVENT_MASK (11:R166). -/
def execEventMask (v : BitVec 32) (s : State) : Host.Outcome State Fault Refusal :=
  .next (whenReleased (fun s => s.writeEventMask v) s)

/-! ### Write accesses (12:R171) -/

/-- The word of CONTROL: SOFT_RESET is bit 1, ENABLE bit 0 (12 section 12.1.1). -/
def State.writeControl (s : State) (v : BitVec 32) : State :=
  if v.getLsbD 1 then s.writeSoftReset (v.getLsbD 0) else s.writeEnable (v.getLsbD 0)

/-- A write that reaches word `w` of the window with all four lanes (12 section 12.1). -/
def State.writeWord (s : State) (w : Nat) (v : BitVec 32) : State :=
  match w with
  | 1 => s.writeControl v
  | 3 => s.writeSetupAddrLo v
  | 4 => s.writeSetupAddrHi v
  | 5 => s.writeSubmit v
  | 6 => s.writeCqHead v
  | 7 => s.writeEventCause v
  | 8 => s.writeEventMask v
  | 9 => s.writeBankAbort v
  | _ => s

/-- A write access at the port: "A write with any byte lane disabled is ignored, whatever its register, and sets
no cause" (12:R171). -/
def State.writeAccess (s : State) (offset : BitVec 6) (lanes : BitVec 4) (v : BitVec 32) : State :=
  if allLanes lanes then s.writeWord (windowWord offset) v else s

/-- REGISTER_WRITE_IGNORED (12:R171): a write to a read-only or unused word, or with a byte lane disabled, changes
nothing. An access that the port's decoding does not ignore is that register's write (log 17). -/
def execRegisterWriteIgnored (offset : BitVec 6) (lanes : BitVec 4) (v : BitVec 32) (s : State) :
    Host.Outcome State Fault Refusal :=
  .next (whenReleased (fun s => s.writeAccess offset lanes v) s)

/-! ### Reads (12:R171 to 12:R173). "Reads have no side effects." -/

/-- 07 section 7.4.7, Controller. -/
def ControllerState.code : ControllerState → BitVec 3
  | .off => 0
  | .loading => 1
  | .running => 2
  | .stopping => 3
  | .stopped => 4
  | .faulted => 5
  | .resetting => 6

/-- 07 section 7.4.7, Sequencer. -/
def SeqState.code : SeqState → BitVec 3
  | .idle => 0
  | .starting => 1
  | .reference => 2
  | .measuring => 3
  | .posting => 4

/-- 07 section 7.4.7, Supply monitor. -/
def MonitorState.code : MonitorState → BitVec 2
  | .off => 0
  | .settling => 1
  | .watching => 2

/-- The fault codes of 10:R151. -/
def FaultCode.code : FaultCode → BitVec 3
  | .none => 0
  | .setupReadError => 1
  | .setupInvalid => 2
  | .statusWriteError => 3
  | .cqWriteError => 4

/-- IDENT: vendor 0x4E, the revision, part 0x0464 (12 section 12.1.1, 12:R172). -/
def identWord (revision : BitVec 8) : BitVec 32 := (0x4E : BitVec 8) ++ revision ++ (0x0464 : BitVec 16)

/-- STATE (12 section 12.1.1, 12:R173). -/
def State.stateWord (s : State) : BitVec 32 :=
  (0 : BitVec 3) ++ s.sm.state.code ++
  (s.bank 3).seq.code ++ (s.bank 2).seq.code ++ (s.bank 1).seq.code ++ (s.bank 0).seq.code ++
  ((s.ring 3).state.code.setWidth 3) ++ ((s.ring 2).state.code.setWidth 3) ++
  ((s.ring 1).state.code.setWidth 3) ++ ((s.ring 0).state.code.setWidth 3) ++ s.cu.state.code

/-- FAULT_INFO (12 section 12.1.1). -/
def State.faultInfoWord (s : State) : BitVec 32 :=
  (0 : BitVec 9) ++ s.cu.faultCode.code ++ BitVec.ofNat 4 s.cu.subsequent ++ s.cu.faultAddr

/-- What a read of word `w` returns: 0 for SUBMIT and the unused words, FAULT_INFO at 0x24 (12:R171). -/
def State.readWord (s : State) (w : Nat) : BitVec 32 :=
  match w with
  | 0 => identWord Config.revision
  | 1 => (BitVec.ofBool s.cu.enable).setWidth 32
  | 2 => s.stateWord
  | 3 => s.cu.setupAddr.extractLsb' 0 32
  | 4 => s.cu.setupAddr.extractLsb' 32 32
  | 6 => s.cw.head.setWidth 32
  | 7 => s.eu.cause.setWidth 32
  | 8 => s.eu.mask.setWidth 32
  | 9 => s.faultInfoWord
  | _ => 0

/-- A read access at the port: "A read always returns the whole word" (12:R171). -/
def State.readAccess (s : State) (offset : BitVec 6) : BitVec 32 := s.readWord (windowWord offset)

end Sys2Proof.Machine
end

