-- ==== Sys2Proof/Machine/Dispatch.lean ====
section
/-! DEFINITION. One arm per command. -/
namespace Sys2Proof.Machine
open Sys2Proof

def exec (i : Instr) (s : State) : Host.Outcome State Fault Refusal :=
  match i with
  | .settleDelayExpiry b => Sys2Proof.Machine.execSettleDelayExpiry b s
  | .firstEdge b => Sys2Proof.Machine.execFirstEdge b s
  | .startTimeout b => Sys2Proof.Machine.execStartTimeout b s
  | .refDone b => Sys2Proof.Machine.execRefDone b s
  | .refTimeout b => Sys2Proof.Machine.execRefTimeout b s
  | .senseWindowClose b => Sys2Proof.Machine.execSenseWindowClose b s
  | .overflow b => Sys2Proof.Machine.execOverflow b s
  | .admission b => Sys2Proof.Machine.execAdmission b s
  | .measure b => Sys2Proof.Machine.execMeasure b s
  | .setBank b => Sys2Proof.Machine.execSetBank b s
  | .supplySettleEnd => Sys2Proof.Machine.execSupplySettleEnd s
  | .lowTransition mv => Sys2Proof.Machine.execLowTransition mv s
  | .comparatorReadsHigh mv => Sys2Proof.Machine.execComparatorReadsHigh mv s
  | .bankAbort value => Sys2Proof.Machine.execBankAbort value s
  | .submit value => Sys2Proof.Machine.execSubmit value s
  | .ringReadIssue => Sys2Proof.Machine.execRingReadIssue s
  | .ringReadAnswer answer => Sys2Proof.Machine.execRingReadAnswer answer s
  | .invalidateRef n => Sys2Proof.Machine.execInvalidateRef n s
  | .reportRefs n => Sys2Proof.Machine.execReportRefs n s
  | .setSupply n => Sys2Proof.Machine.execSetSupply n s
  | .setSchedule n => Sys2Proof.Machine.execSetSchedule n s
  | .clearSchedule n => Sys2Proof.Machine.execClearSchedule n s
  | .fence n => Sys2Proof.Machine.execFence n s
  | .statusWriteAnswer answer => Sys2Proof.Machine.execStatusWriteAnswer answer s
  | .templateReadIssue => Sys2Proof.Machine.execTemplateReadIssue s
  | .templateReadAnswer answer => Sys2Proof.Machine.execTemplateReadAnswer answer s
  | .scheduleExpiry e => Sys2Proof.Machine.execScheduleExpiry e s
  | .cqGrant => Sys2Proof.Machine.execCqGrant s
  | .followingSlotWriteAnswer k answer => Sys2Proof.Machine.execFollowingSlotWriteAnswer k answer s
  | .headerWriteAnswer answer => Sys2Proof.Machine.execHeaderWriteAnswer answer s
  | .cqHead value => Sys2Proof.Machine.execCqHead value s
  | .enable on => Sys2Proof.Machine.execEnable on s
  | .softReset on => Sys2Proof.Machine.execSoftReset on s
  | .setupAddrLo value => Sys2Proof.Machine.execSetupAddrLo value s
  | .setupAddrHi value => Sys2Proof.Machine.execSetupAddrHi value s
  | .setupReadAnswer answer => Sys2Proof.Machine.execSetupReadAnswer answer s
  | .drainComplete => Sys2Proof.Machine.execDrainComplete s
  | .softResetComplete => Sys2Proof.Machine.execSoftResetComplete s
  | .resetNAsserted => Sys2Proof.Machine.execResetNAsserted s
  | .resetNReleased => Sys2Proof.Machine.execResetNReleased s
  | .eventCause value => Sys2Proof.Machine.execEventCause value s
  | .eventMask value => Sys2Proof.Machine.execEventMask value s
  | .registerWriteIgnored offset lanes value => Sys2Proof.Machine.execRegisterWriteIgnored offset lanes value s
  | .countedEdge b => Sys2Proof.Machine.execCountedEdge b s
  | .conversionClockTick => Sys2Proof.Machine.execConversionClockTick s
  | .comparatorReadsLow mv => Sys2Proof.Machine.execComparatorReadsLow mv s

end Sys2Proof.Machine
end

