-- ==== Sys2Proof/Safety.lean ====
section
/-! DEFINITION. What a sound state of the controller is: the relations that the manual says always hold between
its pieces of state. Claims use them as invariants of `step`. -/
namespace Sys2Proof.Machine

open Sys2Proof

/-! ### Bank queues and sequencers (03:R43, 03:R50) -/

/-- A queue of at most four entries; IDLE exactly with an empty queue and with no context; a formed record exactly
in POSTING. -/
def BankSeq.Sound (k : BankSeq) : Prop :=
  k.queue.length ≤ 4 ∧ (k.seq = .idle ↔ k.queue = []) ∧ (k.seq = .idle ↔ k.context = none) ∧
  ∀ x, k.context = some x → (k.seq = .posting ↔ x.record.isSome)

/-- Every bank sequencer is sound. -/
def State.BanksSound (s : State) : Prop := ∀ b, (s.bank b).Sound

/-! ### The grant (08:R123, 08:R125) -/

/-- A granted record is present in every grant state but NONE, and its requester still has it in request: a
sequencer is in POSTING, the fetch unit has it as the oldest of its posting list. -/
def State.GrantSound (s : State) : Prop :=
  (s.cw.grant = .none ↔ s.cw.granted = none) ∧ ∀ g, s.cw.granted = some g →
    match g.requester with
    | .bs b => (s.bank b).seq = .posting
    | .fu => s.fu.posting.head? = some g.record

/-! ### Reference entries and leases (02:R23, 02:R28) -/

/-- The marks of 02:R23 in each state. -/
def RefEntry.MarksSound (e : RefEntry) : Prop :=
  (e.state = .revoked → e.leased = true) ∧ (e.leased = true → e.state = .valid ∨ e.state = .revoked) ∧
  (e.revokePending = true → e.state = .converting) ∧ (e.supplyRevoke = true → e.state = .converting)

/-- "An entry is in CONVERTING only while its bank's sequencer is in REFERENCE for that entry" (02:R23); "A reference
entry is leased only while the active MEASURE of its own bank holds it" (02:R28). -/
def State.LeasesSound (s : State) : Prop :=
  s.BanksSound ∧ s.GrantSound ∧ ∀ b r, (s.ref b r).MarksSound ∧
    ((s.ref b r).state = .converting ↔ (s.bank b).seq = .reference ∧ descRef (s.headDesc b) = r) ∧
    ((s.ref b r).leased = true ↔ (s.bank b).seq = .measuring ∧ descRef (s.headDesc b) = r)

/-! ### The hold set (05:R82, 05:R83, 05:R84) -/

/-- A sequencer that holds or waits for a hold (05:R84). -/
def SeqState.HasHold : SeqState → Prop
  | .starting | .reference | .measuring => True
  | .idle | .posting => False

/-- OFF with no holder and no reading; SETTLING with waiting holders, WATCHING with granted ones; a low-seen flag
only in GRANTED. -/
def SupplyMonitor.Sound (m : SupplyMonitor) : Prop :=
  (m.state = .off ↔ ∀ b : Bank, m.holders[b] = none) ∧ (m.state = .off ↔ m.reading = none) ∧
  ∀ (b : Bank) h, m.holders[b] = some h →
    (m.state = .watching ↔ h.status = .granted) ∧ (h.lowSeen = true → h.status = .granted)

/-- The monitor is sound, and, but for RESETTING, its holders are the banks whose sequencer holds or waits for a
hold; only STARTING waits, and the later states have the grant. -/
def State.HoldsSound (s : State) : Prop :=
  s.BanksSound ∧ s.GrantSound ∧ s.sm.Sound ∧
  (s.cu.state ≠ .resetting → ∀ b, ((s.holder b).isSome ↔ (s.bank b).seq.HasHold) ∧
    ∀ h, s.holder b = some h → (h.status = .waiting → (s.bank b).seq = .starting))

/-! ### Submission rings and the posting list (06:R93, 06:R95, 06:R107) -/

/-- Staging full exactly in STAGED, BLOCKED, POSTING and FENCED (06:R93); the tail within the ring's size of
consumed, and different from it while slot consumed is in flight or in staging (06:R95). -/
def SubRing.Sound (r : SubRing) : Prop :=
  (r.staging.isSome ↔ r.state.busy = true ∧ r.state ≠ .fetching) ∧ r.size ≤ 4096 ∧
  (r.tail - r.consumed).toNat ≤ r.size ∧ (r.state.busy = true → r.tail ≠ r.consumed)

/-- A record of the posting list that finishes with a slot of ring `n` when it is posted (06:R108). -/
def Record.Finishes (r : Record) (n : Ring) : Prop := r.status ≠ .fetchError ∧ r.source = .ring n

/-- Every ring is sound; a record that finishes with a slot has its ring in POSTING, and is the only one of that
ring in the list (06:R107); with the controller neither RUNNING, STOPPING nor RESETTING nothing is staged, listed or
granted (06:R94, 10:R153). -/
def State.RingsSound (s : State) : Prop :=
  s.GrantSound ∧ (∀ n, (s.ring n).Sound) ∧
  (∀ r ∈ s.fu.posting, ∀ n, r.Finishes n → (s.ring n).state = .posting) ∧
  s.fu.posting.Pairwise (fun r q => ∀ n, r.Finishes n → ¬ q.Finishes n) ∧
  (s.cu.state ≠ .running → s.cu.state ≠ .stopping → s.cu.state ≠ .resetting →
    s.cw.grant = .none ∧ s.fu.posting = [] ∧ ∀ n, (s.ring n).state.busy = false)

/-! ### The completion ring (08:R123, 08:R124, 08:R127) -/

/-- "(CQ tail − CQ head) mod 65,536 never exceeds the completion ring size" (08:R127): the record being written has
its room; "The phase field of R123 is always the phase of index tail" (08:R124). -/
def State.CompletionSound (s : State) : Prop :=
  s.cw.size ≤ 4096 ∧ s.cw.used ≤ s.cw.size ∧ s.cw.phase = phaseOfIndex s.cw.size s.cw.tail ∧
  (s.cw.grant = .none ↔ s.cw.granted = none) ∧
  (s.cw.grant = .writing ∨ s.cw.grant = .header →
    ∀ g, s.cw.granted = some g → g.record.slotCount ≤ s.cw.free) ∧
  (s.cw.grant ≠ .none → s.working = true ∨ s.cu.state = .resetting)

end Sys2Proof.Machine
end

