-- ==== Sys2Proof/WellFormed.lean ====
section
/-! DEFINITION. Which commands a sender may spell. `exec` is total on all of them; a well-formed command is
one whose operands can occur at the part's pins and ports. -/
namespace Sys2Proof

/-- A read answered OKAY carries 64 bytes: every read of the controller is a 64-byte read
(06:R98, 06:R100, 10:R153). -/
def ReadAnswer.wellFormed : ReadAnswer → Bool
  | .okay bytes => bytes.length == 64
  | .busError => true

/-- The operands can occur: 64 bytes in a read answer, at most eight following slots in flight
(08:R123), a supply level on the right side of some threshold of 05:R82 (2.70 V to 4.20 V) and at most
the 5.5 V of 12 section 12.4, and a register access that the port does ignore (12:R171). -/
def wellFormed : Instr → Bool
  | .settleDelayExpiry _ => true
  | .firstEdge _ => true
  | .startTimeout _ => true
  | .refDone _ => true
  | .refTimeout _ => true
  | .senseWindowClose _ => true
  | .overflow _ => true
  | .admission _ => true
  | .measure _ => true
  | .setBank _ => true
  | .supplySettleEnd => true
  | .lowTransition mv => decide (mv < 4200)
  | .comparatorReadsHigh mv => decide (2750 < mv ∧ mv ≤ 5500)
  | .bankAbort _ => true
  | .submit _ => true
  | .ringReadIssue => true
  | .ringReadAnswer a => a.wellFormed
  | .invalidateRef _ => true
  | .reportRefs _ => true
  | .setSupply _ => true
  | .setSchedule _ => true
  | .clearSchedule _ => true
  | .fence _ => true
  | .statusWriteAnswer _ => true
  | .templateReadIssue => true
  | .templateReadAnswer a => a.wellFormed
  | .scheduleExpiry _ => true
  | .cqGrant => true
  | .followingSlotWriteAnswer k _ => decide (k < 8)
  | .headerWriteAnswer _ => true
  | .cqHead _ => true
  | .enable _ => true
  | .softReset _ => true
  | .setupAddrLo _ => true
  | .setupAddrHi _ => true
  | .setupReadAnswer a => a.wellFormed
  | .drainComplete => true
  | .softResetComplete => true
  | .resetNAsserted => true
  | .resetNReleased => true
  | .eventCause _ => true
  | .eventMask _ => true
  | .registerWriteIgnored offset lanes _ => lanes != 15 || Machine.writeIsIgnored (Machine.windowWord offset)
  | .countedEdge _ => true
  | .conversionClockTick => true
  | .comparatorReadsLow mv => decide (mv < 4200)

end Sys2Proof
end

