-- ==== Sys2Proof/Certificates/Slice0/Obligations.lean ====
section
/-! DEFINITION. The statements for the provers. Each command that the statements name is stated with the state it
answers written out, so that what the equation does not name is unchanged. -/

open Sys2Proof Sys2Proof.Machine

/-! ### The machine -/

/-- The queue of commands is this model's (logs 1 and 2): the front command runs on the state with the queue's
rest, and an empty queue idles. -/
def Obligations.StepRunsFrontCommand : Prop :=
  (∀ (c : Instr) (rest : List Instr) (s : State),
    step { s with pending := c :: rest } = exec c { s with pending := rest }) ∧
  ∀ s : State, s.pending = [] → step s = .next s

/-- Every command completes, and none but `step` itself touches the queue of commands (model: log 2). -/
def Obligations.CommandsCompleteAndKeepQueue : Prop :=
  ∀ (c : Instr) (s : State), ∃ t, exec c s = .next t ∧ t.pending = s.pending

/-- 10:R163, 12 section 12.4: RESET_N takes the reset values in any state, with the transactions in flight
abandoned; the level of AVDD, the model's counter and the queue of commands are kept (logs 5, 6). 12 section 12.4:
while RESET_N is asserted the register port ignores writes, the memory port issues nothing and the time base is
held, so of the other commands only the moves of the pin AVDD act, and on that pin alone (logs 5, 16). -/
def Obligations.HardwareResetHoldsBlock : Prop :=
  ((∀ s : State, exec .resetNAsserted s = .next { State.reset with
      avdd := s.avdd, resetAsserted := true, draws := s.draws, pending := s.pending }) ∧
    ∀ s : State, exec .resetNReleased s = .next { s with resetAsserted := false }) ∧
  (∀ (c : Instr) (s : State), s.resetAsserted = true →
      (∀ mv, c = .lowTransition mv ∨ c = .comparatorReadsHigh mv ∨ c = .comparatorReadsLow mv →
        exec c s = .next { s with avdd := mv }) ∧
      (c ≠ .resetNAsserted → c ≠ .resetNReleased → (∀ mv, c ≠ .lowTransition mv) →
        (∀ mv, c ≠ .comparatorReadsHigh mv) → (∀ mv, c ≠ .comparatorReadsLow mv) → exec c s = .next s))

/-- The reset values of 01:R1, 02:R22, 03:R43 to R50, 05:R82, 06:R92, 08:R123, 09:R138, 10:R151, 11:R164 to
R169, but for the values that logs 5, 6 and 12 choose. -/
def Obligations.ResetStateHoldsResetValues : Prop :=
  State.reset.cu = {
    state := .off, enable := false, returnState := .off, loadAbandoned := false, setupAddr := 0,
    faultCode := .none, faultAddr := 0, subsequent := 0 } ∧
  (∀ b, State.reset.cell b = {
    state := .stopped, mux := .none, kind := .reference, param := 0, settleCount := 0, gateTimer := 0,
    refCounter := 0, sensorCounter := 0 }) ∧
  (∀ b r, State.reset.ref b r = {
    state := .empty, leased := false, revokePending := false, supplyRevoke := false, gate := 0, nRef := 0,
    generation := 0, publishedAt := 0 }) ∧
  (∀ b, State.reset.bank b = {
    queue := [], seq := .idle, context := none, enabled := true, lifetime := 1000, lastAdmitted := 3 }) ∧
  State.reset.sm.state = .off ∧ State.reset.sm.level = 3 ∧ State.reset.sm.settleTime = 4 ∧
  State.reset.sm.settleTimer = 0 ∧ (∀ b, State.reset.holder b = none) ∧ State.reset.sm.pendingParams = none ∧
  (∀ n, (State.reset.ring n).base = 0 ∧ (State.reset.ring n).size = 0 ∧ (State.reset.ring n).tail = 0 ∧
    (State.reset.ring n).consumed = 0 ∧ (State.reset.ring n).state = .disabled ∧
    (State.reset.ring n).staging = none ∧ (State.reset.ring n).outstanding = 0) ∧
  State.reset.fu.lastFetched = 3 ∧ State.reset.fu.posting = [] ∧
  State.reset.cw = {
    base := 0, size := 0, tail := 0, head := 0, phase := true, pointer := .bs 0, grant := .none,
    granted := none } ∧ State.reset.writesAwaiting = 0 ∧
  (∀ e, State.reset.entry e = {
    state := .free, template := 0, periodMs := 0, nextExpiry := 0, skipped := 0, phase := .requested,
    ending := .normal, held := none }) ∧
  State.reset.eu = { cause := 0, mask := 0 } ∧ State.reset.evtN = true ∧ State.reset.now = 0 ∧
  State.reset.hp.inFlight = 0

/-- 10 section 10.5: a soft reset stops the cells and turns the monitor off, and waits in RESETTING for the bus;
with nothing in flight it completes at once. 10:R163: the reset values are taken by SOFT_RESET_COMPLETE when the
last answer has been received in RESETTING, and not before. The pins and the model's own fields are kept (logs
5, 6, 13). 03 section 3.8: until then every sequencer has stopped at once, so in what SOFT_RESET leaves, a tick and a
settle end, which take the messages in flight, take no end of a MEASURE and no grant: the sequencers, their queues
and cells, the monitor and the schedule are left as they are. A supply-low notice sent before may still reach the
reference table, which "takes claims in every controller state" (02 section 2.1, log 6). -/
def Obligations.SoftResetWaitsForBus : Prop :=
  (∀ (s : State) (on : Bool), s.resetAsserted = false →
      (s.cu.state = .resetting → exec (.softReset on) s = .next s) ∧
      (s.cu.state ≠ .resetting → s.hp.inFlight ≠ 0 → exec (.softReset on) s = .next { s with
        cu := { s.cu with state := .resetting },
        cells := s.cells.map fun c => { c with
          state := .stopped, mux := .none, gateTimer := 0, refCounter := 0, sensorCounter := 0 },
        sm := { s.sm with state := .off, settleTimer := 0, reading := none, holders := .replicate 4 none } }) ∧
      (s.cu.state ≠ .resetting → s.hp.inFlight = 0 → exec (.softReset on) s = .next { State.reset with
        avdd := s.avdd, draws := s.draws, pending := s.pending })) ∧
  ((∀ s : State, s.resetAsserted = false → s.cu.state = .resetting → s.hp.inFlight = 0 →
      exec .softResetComplete s = .next { State.reset with avdd := s.avdd, draws := s.draws, pending := s.pending }) ∧
    (∀ s : State, s.resetAsserted = false → ¬ (s.cu.state = .resetting ∧ s.hp.inFlight = 0) →
      exec .softResetComplete s = .next s)) ∧
  ∀ s : State, s.resetAsserted = false → s.cu.state = .resetting → (∀ b, (s.cell b).state = .stopped) →
      s.sm.state = .off →
      exec .conversionClockTick s = .next { s with
        refs := s.refs.map fun p => if p.noticeDue then
          { entryA := p.entryA.supplyLow, entryB := p.entryB.supplyLow, noticeDue := false } else p,
        tb := if s.tb.prescaler < 31 then { s.tb with prescaler := s.tb.prescaler + 1 }
          else { micros := s.tb.micros + 1, prescaler := 0 } } ∧
      (∃ refs draws, exec .supplySettleEnd s = .next { s with refs := refs, draws := draws }) ∧
      ((∀ b : Bank, s.refs[b].noticeDue = false) → exec .supplySettleEnd s = .next s)

/-! ### The converter cells (chapter 1) -/

/-- 01 section 1.4: the settle delay expires when the gate timer has reached the settle count. 01 sections 1.4
to 1.6: the first edge is not counted and opens the window of the window kind; with G = 0 a sense window closes
at its opening edge and OPEN with N_s = 0 reaches the sequencer. 01 section 1.4: a start timeout stops the cell
with its selection kept; REF_TIMEOUT or OPEN with N_s = 0 reaches the sequencer. -/
def Obligations.StartPhaseEvents : Prop :=
  (∀ (b : Bank) (s : State), s.resetAsserted = false → (s.cell b).state = .settling →
      (s.cell b).settleCount ≤ (s.cell b).gateTimer.toNat →
      exec (.settleDelayExpiry b) s = .next (s.setCell b { s.cell b with state := .awaitEdge, gateTimer := 0 })) ∧
  (∀ (b : Bank) (s : State), s.resetAsserted = false → (s.cell b).state = .awaitEdge →
      ((s.cell b).kind = .reference →
        exec (.firstEdge b) s = .next (s.setCell b
          { s.cell b with state := .refWindow, gateTimer := 0, refCounter := (s.cell b).param.setWidth 16 })) ∧
      ((s.cell b).kind = .sense → (s.cell b).param ≠ 0 →
        exec (.firstEdge b) s = .next (s.setCell b
          { s.cell b with state := .senseWindow, gateTimer := (s.cell b).param, sensorCounter := 0 })) ∧
      ((s.cell b).kind = .sense → (s.cell b).param = 0 →
        exec (.firstEdge b) s = .next ((s.setCell b
          { s.cell b with state := .stopped, gateTimer := 0, sensorCounter := 0 }).takeOutcome b (.openCircuit 0)))) ∧
  (∀ (b : Bank) (s : State), s.resetAsserted = false → (s.cell b).state = .awaitEdge →
      64000 ≤ (s.cell b).gateTimer.toNat →
      ((s.cell b).kind = .reference →
        exec (.startTimeout b) s =
          .next ((s.setCell b { s.cell b with state := .stopped }).takeOutcome b .refTimeout)) ∧
      ((s.cell b).kind = .sense →
        exec (.startTimeout b) s =
          .next ((s.setCell b { s.cell b with state := .stopped }).takeOutcome b (.openCircuit 0))))

/-- 01 section 1.5: the edge that brings the reference cycle counter to 0 reports REF_DONE with the gate timer;
the gate timer at 16,777,215 reports REF_TIMEOUT without a gate. 01 section 1.6: the window closes with GOOD
from four cycles on and with OPEN below; an edge with the sensor counter full ends it with OVERFLOW and no
count, "with the gate timer not yet at 0"; at 0 the close is due and no edge overflows (log 4). 03 section 3.5.1: the
sequencer reads its low-seen flag at the outcome, and a window with the flag set then sets SUPPLY_LOW_SEEN. 01 section
1.7: in any other state of the sequencer the outcome is disregarded. -/
def Obligations.WindowsEndWithOutcome : Prop :=
  (∀ (b : Bank) (s : State), s.resetAsserted = false → (s.cell b).state = .refWindow →
      ((s.cell b).refCounter.toNat = 1 → (s.cell b).gateTimer.toNat ≤ 16777214 →
        exec (.refDone b) s = .next ((s.setCell b
          { s.cell b with state := .stopped, refCounter := 0 }).takeOutcome b (.refDone (s.cell b).gateTimer))) ∧
      ((s.cell b).gateTimer.toNat = 16777215 →
        exec (.refTimeout b) s =
          .next ((s.setCell b { s.cell b with state := .stopped }).takeOutcome b .refTimeout))) ∧
  (∀ (b : Bank) (s : State), s.resetAsserted = false → (s.cell b).state = .senseWindow →
      ((s.cell b).gateTimer = 0 → 4 ≤ (s.cell b).sensorCounter.toNat →
        exec (.senseWindowClose b) s = .next ((s.setCell b
          { s.cell b with state := .stopped }).takeOutcome b (.good (s.cell b).sensorCounter))) ∧
      ((s.cell b).gateTimer = 0 → (s.cell b).sensorCounter.toNat ≤ 3 →
        exec (.senseWindowClose b) s = .next ((s.setCell b
          { s.cell b with state := .stopped }).takeOutcome b (.openCircuit (s.cell b).sensorCounter))) ∧
      ((s.cell b).gateTimer ≠ 0 → (s.cell b).sensorCounter.toNat = 16777215 →
        exec (.overflow b) s =
          .next ((s.setCell b { s.cell b with state := .stopped }).takeOutcome b .overflow)) ∧
      ((s.cell b).gateTimer = 0 → exec (.overflow b) s = .next s)) ∧
  (∀ (b : Bank) (o : Outcome) (s : State),
      ((s.bank b).seq ≠ .reference → (s.bank b).seq ≠ .measuring → s.takeOutcome b o = s) ∧
      ∀ h x, s.holder b = some h → h.lowSeen = true → (s.bank b).context = some x →
        ((s.bank b).seq = .reference ∧ (o = .refTimeout ∨ ∃ g, o = .refDone g) ∨
          (s.bank b).seq = .measuring ∧ (o = .overflow ∨ ∃ n, o = .good n ∨ o = .openCircuit n)) →
        ∃ y, ((s.takeOutcome b o).bank b).context = some y ∧ y.flags.supplyLowSeen = true)

/-- 01 section 1.6: "A single edge changes one counter of one cell." An edge that ends its window is another
command; an edge in STOPPED or SETTLING does not exist for the cell. At a gate timer of 0 the close of a sense
window is due, and an edge that is taken after it is not counted (log 4). -/
def Obligations.CountedEdgeChangesOneCounter : Prop :=
  ∀ (b : Bank) (s : State), s.resetAsserted = false →
    ((s.cell b).state = .refWindow → (s.cell b).gateTimer.toNat < 16777215 → 1 < (s.cell b).refCounter.toNat →
      exec (.countedEdge b) s =
        .next (s.setCell b { s.cell b with refCounter := (s.cell b).refCounter - 1 })) ∧
    ((s.cell b).state = .senseWindow → (s.cell b).gateTimer ≠ 0 → (s.cell b).sensorCounter.toNat < 16777215 →
      exec (.countedEdge b) s =
        .next (s.setCell b { s.cell b with sensorCounter := (s.cell b).sensorCounter + 1 })) ∧
    ((s.cell b).state = .senseWindow → (s.cell b).gateTimer = 0 → exec (.countedEdge b) s = .next s) ∧
    ((s.cell b).state = .stopped ∨ (s.cell b).state = .settling → exec (.countedEdge b) s = .next s)

/-- 01 sections 1.4 to 1.6, 05 section 5.2, 11 section 11.4: a tick advances each cell's gate timer as its state
gives, and every 32nd tick the microsecond counter and, in SETTLING, the settle timer. By the model's choice each expiry
that is due and was not commanded is taken before (log 3): at each cell the one of its state, the settle end, and the
expiries of the schedule entries; and then the messages in flight, each bank's notice, and, in RUNNING and STOPPING,
the end of its MEASURE and its grant (log 6). -/
def Obligations.TickAdvancesTimers : Prop :=
  (∀ s : State, s.resetAsserted = false →
    let t := s.takeDue.deliverAll
    exec .conversionClockTick s = .next { t with
      cells := t.cells.map fun c =>
        if c.state = .stopped then c
        else if c.state = .senseWindow then { c with gateTimer := c.gateTimer - 1 }
        else { c with gateTimer := c.gateTimer + 1 },
      tb := if s.tb.prescaler < 31 then { s.tb with prescaler := s.tb.prescaler + 1 }
        else { micros := s.tb.micros + 1, prescaler := 0 },
      sm := if 31 ≤ s.tb.prescaler ∧ t.sm.state = .settling then
        { t.sm with settleTimer := t.sm.settleTimer + 1 } else t.sm }) ∧
  (∀ s : State, s.resetAsserted = false →
    let run (c : Instr) (u : State) : State :=
      match exec c u with
      | .next v => v
      | _ => u
    let cells := (List.finRange 4).foldl (fun u b =>
      match (u.cell b).state with
      | .stopped => u
      | .settling => run (.settleDelayExpiry b) u
      | .awaitEdge => run (.startTimeout b) u
      | .refWindow => run (.refTimeout b) u
      | .senseWindow => run (.senseWindowClose b) u) s
    let settled := if cells.sm.settleEndDue then run .supplySettleEnd cells else cells
    s.takeDue = (List.finRange 8).foldl (fun u e => run (.scheduleExpiry e) u) settled) ∧
  (∀ s : State,
    (∀ b, (s.cell b).settleDue = false ∧ (s.cell b).startTimeoutDue = false ∧
      (s.cell b).refTimeoutDue = false ∧ (s.cell b).senseCloseDue = false) →
    s.sm.settleEndDue = false → (∀ e, s.expiryDue e = false) → s.takeDue = s) ∧
  (∀ s : State,
    s.deliverAll = (List.finRange 4).foldl (fun (u : State) b =>
      let v : State := if u.refs[b].noticeDue then
          { u with refs := u.refs.set b { u.refs[b] with noticeDue := false } }.supplyLowNotice b
        else u
      let w := v.deliverEnd b
      if (w.cu.state = .running ∨ w.cu.state = .stopping) ∧ (w.bank b).seq = .starting ∧
          (w.holder b).any (fun h => h.status == .granted) then w.takeGrant b else w) s ∧
    (s.cu.state ≠ .running → s.cu.state ≠ .stopping → ∀ b, s.deliverEnd b = s) ∧
    ((∀ b, s.refs[b].noticeDue = false ∧ s.endInFlight b = none ∧
      ¬ ((s.bank b).seq = .starting ∧ (s.holder b).any (fun h => h.status == .granted))) → s.deliverAll = s))

/-- 11 section 11.4: "the counter steps by one every 32 conversion-clock ticks, and after 4,294,967,295 it steps
to 0", whatever else those ticks do. -/
def Obligations.MicrosecondEveryThirtyTwoTicks : Prop :=
  ∀ (n : Nat) (s : State), s.resetAsserted = false → s.tb.prescaler < 32 →
    (State.tick^[n] s).tb = {
      micros := s.tb.micros + BitVec.ofNat 32 ((s.tb.prescaler + n) / 32),
      prescaler := (s.tb.prescaler + n) % 32 } ∧
    exec .conversionClockTick s = .next s.tick

/-- 01 section 1.3: start commands. A reference start always settles by its delay; a sample start settles only
when the selection changes; a cell that is not STOPPED takes neither. 01:R16. The stop in every cell state; an
outcome that reaches a sequencer which has given a stop (POSTING) is disregarded. -/
def Obligations.StartAndStopCommands : Prop :=
  ((∀ (c : Cell) (r : Ref) (n : BitVec 16) (d : Nat), c.state = .stopped →
      c.startReference r n d = { c with
        state := if 0 < d then .settling else .awaitEdge, mux := .ref r, kind := .reference, param := n.setWidth 24,
        settleCount := d * 128, gateTimer := 0 }) ∧
    (∀ (c : Cell) (ch : Channel) (g : BitVec 24) (d : Nat), c.state = .stopped → c.mux ≠ .channel ch →
      c.startSample ch g d = { c with
        state := if 0 < d then .settling else .awaitEdge, mux := .channel ch, kind := .sense, param := g,
        settleCount := d * 128, gateTimer := 0 }) ∧
    (∀ (c : Cell) (ch : Channel) (g : BitVec 24) (d : Nat), c.state = .stopped → c.mux = .channel ch →
      c.startSample ch g d = { c with
        state := .awaitEdge, kind := .sense, param := g, settleCount := 0, gateTimer := 0 }) ∧
    ∀ (c : Cell) (r : Ref) (ch : Channel) (n : BitVec 16) (g : BitVec 24) (d : Nat), c.state ≠ .stopped →
      c.startReference r n d = c ∧ c.startSample ch g d = c) ∧
  ((∀ c : Cell, c.stop = { c with
      state := .stopped, mux := .none, gateTimer := 0, refCounter := 0, sensorCounter := 0 } ∧
      c.stop.oscillatorEnabled = false ∧ c.stop.capacitorGrounded = true) ∧
    ∀ (b : Bank) (o : Outcome) (s : State), (s.bank b).seq = .posting → s.takeOutcome b o = s)

/-! ### Channel arithmetic (01 section 1.9, 03 section 3.5.3) -/

/-- 01 section 1.9: the ratio over the sums that can arise is the floor of the exact quotient, and never
saturates. Over all operands it saturates exactly when N_ref × k ≥ 65,536 × S with k above 0; that a sum of 0 is such a
case is read from that condition (log 20). 01 section 1.9: over the samples of one list entry good + rejected counts them, and the sum lies
between 4 and 16,777,215 times the good ones when every good count does. -/
def Obligations.ChannelArithmeticExact : Prop :=
  (∀ (n : BitVec 16) (k sum : Nat), k ≤ 8 → 4 * k ≤ sum → (k = 0 → sum = 0) → sum ≤ 134217720 →
      channelRatio n k sum = (if k = 0 then 0 else n.toNat * k * 65536 / sum) ∧
      channelRatio n k sum ≤ 1073725440 ∧ ratioSaturates n k sum = false) ∧
  (∀ (n : BitVec 16) (k sum : Nat),
      (k = 0 → channelRatio n k sum = 0 ∧ ratioSaturates n k sum = false) ∧
      (k ≠ 0 → 65536 * sum ≤ n.toNat * k → channelRatio n k sum = 4294967295 ∧ ratioSaturates n k sum = true) ∧
      (k ≠ 0 → n.toNat * k < 65536 * sum →
        channelRatio n k sum = n.toNat * k * 65536 / sum ∧ channelRatio n k sum ≤ 4294967295 ∧
        ratioSaturates n k sum = false)) ∧
  (∀ js : List (Except Rejection Nat),
      (∀ n, .ok n ∈ js → 4 ≤ n ∧ n ≤ 16777215) →
      let a := js.foldl Accumulator.add Accumulator.zero
      a.good + a.rejected = js.length ∧ 4 * a.good ≤ a.sum ∧ a.sum ≤ 16777215 * a.good ∧
        (js.length ≤ 8 → a.sum ≤ 134217720))

/-- 03:R60. Each outcome with the flag read at its end; the first rejection of a list entry is recorded and
kept. 03 section 3.5.3: the channel entry appended after the last sample: ratio, status, limit result, and the
flags it sets. 04 section 4.2: the same entry with the status ABORTED over the samples so far. 02 section 2.3: the ratio uses the n_ref copied at the lease. -/
def Obligations.SampleJudgedAndEntryCompleted : Prop :=
  (∀ (x : Context) (low : Bool) (n : BitVec 24),
      (low = false → x.addSample (.good n) low = { x with
        acc := { x.acc with good := x.acc.good + 1, sum := x.acc.sum + n.toNat } }) ∧
      (low = false → x.addSample (.openCircuit n) low = { x with
        acc := { x.acc with rejected := x.acc.rejected + 1 },
        firstRejection := some (x.firstRejection.getD .openCircuit) }) ∧
      (low = false → x.addSample .overflow low = { x with
        acc := { x.acc with rejected := x.acc.rejected + 1 },
        firstRejection := some (x.firstRejection.getD .overflow) }) ∧
      (low = true → ∀ o, o = .good n ∨ o = .openCircuit n ∨ o = .overflow → x.addSample o low = { x with
        acc := { x.acc with rejected := x.acc.rejected + 1 },
        firstRejection := some (x.firstRejection.getD .supplyLow),
        flags := { x.flags with supplyLowSeen := true } })) ∧
  (∀ (x : Context) (d : Bytes) (status : ChannelStatus),
      let a := x.acc
      let ratio := channelRatio x.ratioNRef a.good a.sum
      let limit : LimitResult :=
        if descLimits d = false ∨ a.good = 0 then .none
        else if ratio < (descLimitLow d).toNat then .below
        else if (descLimitHigh d).toNat < ratio then .above else .inside
      x.completeEntry d status = { x with
        results := x.results ++ [{
          channel := descChannel d x.entryPos, status := status, good := a.good, rejected := a.rejected,
          limit := limit, sum := a.sum, ratio := ratio }],
        flags := { x.flags with
          saturated := x.flags.saturated || ratioSaturates x.ratioNRef a.good a.sum,
          limitHit := x.flags.limitHit || (limit == .below || limit == .above) } }) ∧
  (∀ (a : Accumulator) (first : Option Rejection),
      channelStatus a first =
        if a.good = 0 then
          (if first = some .overflow then .overflow
           else if first = some .supplyLow then .supplyLow else .openCircuit)
        else if a.rejected = 0 then .ok else .partialResult) ∧
  (∀ (x : Context) (l : Lease), x.lease = some l → x.ratioNRef = l.nRef)

/-! ### The reference table (chapter 2) -/

/-- 02 sections 2.2 and 2.3: the age test, the hit test, and what a hit and a miss leave in the entry. 02
section 2.4: a publication; the generation counts from 1 and never returns to 0, and a retry claim only clears
supply_revoke. 02:R32. The release table. 02 section 2.7: a supply-low notice is an invalidate of both entries
of the bank, but that an entry in CONVERTING keeps revoke_pending and sets supply_revoke. 02:R40. The age a
snapshot reports. -/
def Obligations.ReferenceEntryOperations : Prop :=
  ((∀ (e : RefEntry) (n : BitVec 16) (force : Bool) (life : BitVec 16) (now : Time),
      e.isHit n force life now = true ↔
        e.state = .valid ∧ e.leased = false ∧ e.nRef = n ∧
        (now - e.publishedAt).toNat < life.toNat * 1000 ∧ force = false) ∧
    (∀ (e : RefEntry) (n : BitVec 16) (force : Bool) (now : Time), e.isHit n force 0 now = false) ∧
    ∀ e : RefEntry, e.hit = { e with leased := true } ∧
      e.miss = { e with state := .converting, revokePending := false, supplyRevoke := false, leased := false }) ∧
  ((∀ (e : RefEntry) (g : BitVec 24) (n : BitVec 16) (now : Time), e.publish g n now = {
      state := if e.revokePending = false ∧ e.supplyRevoke = false then .valid else .revoked,
      leased := true, revokePending := false, supplyRevoke := false, gate := g, nRef := n,
      generation := if e.generation = 65535 then 1 else e.generation + 1, publishedAt := now }) ∧
    (∀ (e : RefEntry) (g : BitVec 24) (n : BitVec 16) (now : Time), (e.publish g n now).generation ≠ 0) ∧
    ∀ e : RefEntry, e.retry = { e with supplyRevoke := false }) ∧
  (∀ (e : RefEntry) (life : BitVec 16) (now : Time),
      (e.state = .revoked → e.release life now = { e with state := .empty, leased := false }) ∧
      (e.state = .valid → (now - e.publishedAt).toNat < life.toNat * 1000 →
        e.release life now = { e with state := .valid, leased := false }) ∧
      (e.state = .valid → life.toNat * 1000 ≤ (now - e.publishedAt).toNat →
        e.release life now = { e with state := .stale, leased := false })) ∧
  (∀ (b c : Bank) (r : Ref) (s : State),
      let e := s.ref c r
      (s.supplyLowNotice b).ref c r =
        if b ≠ c then e
        else match e.state with
          | .empty => e
          | .converting => { e with supplyRevoke := true }
          | .valid => if e.leased then { e with state := .revoked } else { e with state := .empty }
          | .stale => { e with state := .empty }
          | .revoked => e) ∧
  (∀ (e : RefEntry) (b : Bank) (r : Ref) (now : Time),
      (e.snap b r now).age =
        (if e.generation = 0 then 0
         else if 65535000 ≤ (now - e.publishedAt).toNat then 65535
         else (now - e.publishedAt).toNat / 1000) ∧
      (e.snap b r now).state = e.state ∧ (e.snap b r now).leased = e.leased)

/-! ### The bank sequencer (chapter 3) -/

/-- 03 section 3.4, the first matching row of the take: a flushed entry, a SET_BANK and a MEASURE on a disabled
bank form a one-slot record; a MEASURE on an enabled bank requests its hold and enters STARTING. 09 section 9.5:
the skipped count handed to a record, and the claim that sets it to 0; 0 for a ring source (03 section 3.5.4).
The sample number, entry position and accumulator of the fresh context are 0 by the model's choice (log 26). -/
def Obligations.TakeActsByFirstRow : Prop :=
  (∀ (b : Bank) (s : State) (q : QueueEntry) (qs : List QueueEntry), (s.bank b).queue = q :: qs →
      let k := s.bank b
      let before := detailBytes (if k.enabled then 1 else 0) 0 (k.lifetime.extractLsb' 0 8)
        (k.lifetime.extractLsb' 8 8)
      let skipped := detailBytes 0 (BitVec.ofNat 8 (s.skippedOf q.source)) 0 0
      let ctx : Context := {
        startTime := s.now, lease := none, leaseHeld := false, hold := .none, supplyFailures := 0, entryPos := 0,
        sampleNo := 0, acc := .zero, firstRejection := none, results := [], flags := .clear, record := none,
        endDue := none }
      let one (st : RecordStatus) (r : Ref) (n : BitVec 16) (detail : BitVec 32) : Record := {
        slotCount := 1, kind := descKind q.desc, status := st,
        flags := { RecordFlags.clear with notify := descNotify q.desc }, tag := descTag q.desc, source := q.source,
        bank := descBank q.desc, ref := r, gate := 0, nRef := n, generation := 0, startTime := s.now,
        endTime := s.now, detail := detail, channels := [], snapshot := [] }
      (q.flushed = true → descKind q.desc = 2 →
        s.takeHead b = (s.claimSkipped q.source).setBank b { k with
          seq := .posting,
          context := some { ctx with record := some (one .flushed .a 0 before) } }) ∧
      (q.flushed = true → descKind q.desc = 1 →
        s.takeHead b = (s.claimSkipped q.source).setBank b { k with
          seq := .posting,
          context := some { ctx with
            record := some (one .flushed (descRef q.desc) (descNRef q.desc)
              skipped) } }) ∧
      (q.flushed = false → descKind q.desc = 2 →
        s.takeHead b = s.setBank b { k with
          seq := .posting, enabled := descEnabled q.desc, lifetime := descLifetime q.desc,
          context := some { ctx with record := some (one .success .a 0 before) } }) ∧
      (q.flushed = false → descKind q.desc = 1 → k.enabled = false →
        s.takeHead b = (s.claimSkipped q.source).setBank b { k with
          seq := .posting,
          context := some { ctx with
            record := some (one .bankDisabled (descRef q.desc) (descNRef q.desc)
              skipped) } }) ∧
      (q.flushed = false → descKind q.desc = 1 → k.enabled = true →
        s.takeHead b = (s.setBank b { k with
          seq := .starting, context := some { ctx with hold := .requested } }).requestHold b)) ∧
  (∀ s : State,
      (∀ n, s.skippedOf (.ring n) = 0 ∧ s.claimSkipped (.ring n) = s) ∧
      ∀ e, s.skippedOf (.schedule e) = (s.entry e).skipped ∧
        s.claimSkipped (.schedule e) = s.setEntry e { s.entry e with skipped := 0 })

/-- 03 section 3.5.1: MEASURE, as an event of an IDLE sequencer: an enabled bank takes an unflushed MEASURE from
its queue or, with the queue empty, the one that is admitted with it (model: log 7). From OFF the monitor
settles; a supply-low notice that is still in flight for the bank is taken first (02 section 2.7, log 6). 03 section
3.3: SET_BANK, as an event of an IDLE sequencer, in both forms of log 7. The sample number,
entry position and accumulator of the fresh context are 0 by the model's choice (log 26). -/
def Obligations.IdleSequencerTakesMeasureOrSetBank : Prop :=
  (∀ (b : Bank) (s : State), s.resetAsserted = false → s.working = true → (s.bank b).seq = .idle →
      (s.bank b).enabled = true →
      (∀ (q : QueueEntry) (qs : List QueueEntry), (s.bank b).queue = q :: qs → q.flushed = false →
        descKind q.desc = 1 → s.sm.state = .off →
        exec (.measure b) s = .next { (s.deliverNotice b).setBank b { s.bank b with
            seq := .starting,
            context := some {
              startTime := s.now, lease := none, leaseHeld := false, hold := .requested, supplyFailures := 0,
              entryPos := 0, sampleNo := 0, acc := .zero, firstRejection := none, results := [], flags := .clear,
              record := none, endDue := none } } with
          sm := { s.sm with
            state := .settling, settleTimer := 0, holders := s.sm.holders.set b (some { status := .waiting, lowSeen := false }),
            reading := some (if s.avdd < 2700 + 100 * s.sm.level then .low else .high) } }) ∧
      (∀ c : Candidate, (s.bank b).queue = [] → s.grantable b = some c →
        descKind c.desc = 1 →
        exec (.measure b) s = .next (((s.admitAtOwner b c).joinQueue b c).takeHead b))) ∧
  (∀ (b : Bank) (s : State), s.resetAsserted = false → s.working = true → (s.bank b).seq = .idle →
      (∀ (q : QueueEntry) (qs : List QueueEntry), (s.bank b).queue = q :: qs → q.flushed = false →
        descKind q.desc = 2 →
        exec (.setBank b) s = .next (s.setBank b { s.bank b with
          seq := .posting, enabled := descEnabled q.desc, lifetime := descLifetime q.desc,
          context := some {
            startTime := s.now, lease := none, leaseHeld := false, hold := .none, supplyFailures := 0,
            entryPos := 0, sampleNo := 0, acc := .zero, firstRejection := none, results := [], flags := .clear,
            record := some {
              slotCount := 1, kind := 2, status := .success,
              flags := { RecordFlags.clear with notify := descNotify q.desc }, tag := descTag q.desc,
              source := q.source, bank := descBank q.desc, ref := .a, gate := 0, nRef := 0, generation := 0,
              startTime := s.now, endTime := s.now,
              detail := detailBytes (if (s.bank b).enabled then 1 else 0) 0
                ((s.bank b).lifetime.extractLsb' 0 8) ((s.bank b).lifetime.extractLsb' 8 8),
              channels := [], snapshot := [] },
            endDue := none } })) ∧
      (∀ c : Candidate, (s.bank b).queue = [] → s.grantable b = some c →
        descKind c.desc = 2 →
        exec (.setBank b) s = .next (((s.admitAtOwner b c).joinQueue b c).takeHead b)))

/-- 05 sections 5.2 and 5.3: a hold request in SETTLING waits; in WATCHING it is granted at once, with the flag
as the comparator reads. 05 sections 5.2 and 5.4: the settle end enters WATCHING and grants every holder with its flag
as the comparator reads, and with the comparator LOW SUPPLY_LOW is set. 02 section 2.2, 04 section 4.2: a grant, and
with the comparator LOW the supply-low notice that goes with it, is taken now or stays in flight (the free value of
log 6). 02 section 2.7: a notice still in flight for the bank is taken before its next hold request. With no settle end
due the command takes messages in flight, each or not yet (the model's choice, log 6); a grant and an end are taken in
RUNNING and STOPPING only (03 section 3.8). -/
def Obligations.HoldRequestAndSettleEnd : Prop :=
  (∀ (b : Bank) (s : State),
      let drawn := { s with draws := s.draws + 1 }
      (s.sendGrant b = drawn.takeGrant b ∨ s.sendGrant b = drawn) ∧
      (s.sendNotice b = drawn.supplyLowNotice b ∨
        s.sendNotice b = { drawn with refs := s.refs.set b { s.refs[b] with noticeDue := true } })) ∧
  (∀ (b : Bank) (s : State),
      s.deliverNotice b = if s.refs[b].noticeDue then
          { s with refs := s.refs.set b { s.refs[b] with noticeDue := false } }.supplyLowNotice b
        else s) ∧
  (∀ (b : Bank) (s : State),
      let t := s.deliverNotice b
      (s.sm.state = .settling → s.requestHold b = t.setHolder b (some { status := .waiting, lowSeen := false })) ∧
      (s.sm.state = .watching → s.sm.reading = some .high →
        s.requestHold b = (t.setHolder b (some { status := .granted, lowSeen := false })).sendGrant b) ∧
      (s.sm.state = .watching → s.sm.reading = some .low →
        s.requestHold b =
          ((t.setHolder b (some { status := .granted, lowSeen := true })).sendNotice b).sendGrant b)) ∧
  (∀ s : State, s.resetAsserted = false → s.sm.state = .settling → s.sm.settleTime * 100 ≤ s.sm.settleTimer →
      let granted (low : Bool) := { s with sm := { s.sm with
        state := .watching,
        holders := s.sm.holders.map fun h => h.map fun _ => { status := .granted, lowSeen := low } } }
      (s.sm.reading = some .high →
        exec .supplySettleEnd s = .next ((List.finRange 4).foldl
          (fun t b => if (s.holder b).isSome then t.sendGrant b else t) (granted false))) ∧
      (s.sm.reading = some .low →
        let t := (List.finRange 4).foldl
          (fun t b => if (s.holder b).isSome then (t.sendNotice b).sendGrant b else t) (granted true)
        exec .supplySettleEnd s = .next { t with eu := { s.eu with cause := s.eu.cause ||| 8 } } ∧
        t.sm.state = .watching ∧ ∀ b, t.holder b = (s.holder b).map fun _ => { status := .granted, lowSeen := true })) ∧
  (∀ s : State, s.resetAsserted = false → s.sm.state ≠ .settling ∨ s.sm.settleTimer < s.sm.settleTime * 100 →
      let due (t : State) (b : Bank) := t.refs[b].noticeDue = true ∨ t.endInFlight b ≠ none ∨
        (t.cu.state = .running ∨ t.cu.state = .stopping) ∧ (t.bank b).seq = .starting ∧
          (t.holder b).any (fun h => h.status == .granted) = true
      exec .supplySettleEnd s = .next ((List.finRange 4).foldl State.deliverSome s) ∧
      ((∀ b, ¬ due s b) → exec .supplySettleEnd s = .next s) ∧
      ∀ (t : State) (b : Bank), (¬ due t b → t.deliverSome b = t) ∧
        (due t b →
          ∃ notice ending grant : Bool,
            let u := { t with draws := t.draws + 3 }
            let v := if notice then u.deliverNotice b else u
            let w := if ending then v.deliverEnd b else v
            t.deliverSome b = if grant then w.deliverGrant b else w))

/-- 03 section 3.5.1: the grant reaches STARTING: a hit copies the entry's values and begins the first sample; a
miss converts. In any other state the grant is disregarded (04 section 4.2). 03 section 3.5.1 and 05 section
5.3: a start command to the cell with the descriptor's fields and the copied gate; the low-seen flag of a
granted holder starts as the comparator reads. -/
def Obligations.GrantRequestsLeaseAndStartsWindow : Prop :=
  (∀ (b : Bank) (s : State) (x : Context),
      let d := s.headDesc b
      let e := s.ref b (descRef d)
      let k := s.bank b
      ((s.bank b).seq ≠ .starting → s.takeGrant b = s) ∧
      (k.seq = .starting → k.context = some x →
        e.isHit (descNRef d) (descForceRef d) k.lifetime s.now = true →
        s.takeGrant b = ((s.setRef b (descRef d) { e with leased := true }).setBank b { k with
          seq := .measuring,
          context := some { x with
            hold := .granted, lease := some { gate := e.gate, nRef := e.nRef, generation := e.generation },
            leaseHeld := true, entryPos := 0, sampleNo := 1, acc := .zero,
            firstRejection := none } }).startSampleWindow b) ∧
      (k.seq = .starting → k.context = some x →
        e.isHit (descNRef d) (descForceRef d) k.lifetime s.now = false →
        s.takeGrant b = ((s.setRef b (descRef d) { e with
          state := .converting, revokePending := false, supplyRevoke := false, leased := false }).setBank b { k with
            seq := .reference,
            context := some { x with
              hold := .granted, supplyFailures := 0,
              flags := { x.flags with refConverted := true } } }).startReferenceWindow b)) ∧
  (∀ (b : Bank) (s : State) (h : Holder), s.holder b = some h → h.status = .granted →
      let d := s.headDesc b
      let low := some { h with lowSeen := s.sm.reading == some .low }
      s.startReferenceWindow b =
        (s.setCell b ((s.cell b).startReference (descRef d) (descNRef d) (descSettle d))).setHolder b low ∧
      ∀ (x : Context) (l : Lease), (s.bank b).context = some x → x.lease = some l →
        s.startSampleWindow b =
          (s.setCell b ((s.cell b).startSample (descChannel d x.entryPos) l.gate (descSettle d))).setHolder b low)

/-- 03 section 3.5.2: REF_DONE in REFERENCE. Clean, it publishes, leases and begins the first sample; the first
with the flag set is retried, with supply_revoke cleared; the second fails the conversion. 03 section 3.5.2:
REF_TIMEOUT in REFERENCE fails the conversion, whether or not the low-seen flag is set. 05 section 5.4: a low transition
may be taken before the hold release of a failed conversion, after the flag has been read, so the end is taken now or
stays in flight (the free value of log 6), and is then taken in RUNNING or STOPPING (03 section 3.8). That a start
command follows the reading of the flag at once is the model's choice (log 28). -/
def Obligations.ReferenceOutcomeInReference : Prop :=
  let failed (b : Bank) (s : State) (x : Context) (reason : Byte) : State :=
    let d := s.headDesc b
    let e := s.ref b (descRef d)
    { s with
      refs := (s.setRef b (descRef d) { e with state := .empty, revokePending := false, supplyRevoke := false }).refs,
      sm := (s.releaseHold b).sm,
      sched := (s.claimSkipped (s.headSource b)).sched,
      banks := s.banks.set b { s.bank b with
        seq := .posting,
        context := some { x with
          hold := .none,
          record := some {
            slotCount := 1 + (descChannelCount d + 1) / 2, kind := 1, status := .refFailed,
            flags := { x.flags with notify := descNotify d }, tag := descTag d, source := s.headSource b,
            bank := descBank d, ref := descRef d, gate := 0, nRef := descNRef d, generation := 0,
            startTime := x.startTime, endTime := s.now,
            detail := detailBytes reason (BitVec.ofNat 8 (s.skippedOf (s.headSource b))) 0 0,
            channels := (List.range (descChannelCount d)).map fun i =>
              { channel := descChannel d i, status := .notRun, good := 0, rejected := 0, limit := .none,
                sum := 0, ratio := 0 },
            snapshot := [] } } } }
  (∀ (b : Bank) (s : State) (x : Context) (g : BitVec 24),
      (s.bank b).seq = .reference → (s.bank b).context = some x →
      let d := s.headDesc b
      let e := s.ref b (descRef d)
      let k := s.bank b
      (s.lowSeen b = false →
        let p := e.publish g (descNRef d) s.now
        s.takeOutcome b (.refDone g) = ((s.setRef b (descRef d) p).setBank b { k with
          seq := .measuring,
          context := some { x with
            lease := some { gate := g, nRef := descNRef d, generation := p.generation }, leaseHeld := true,
            entryPos := 0, sampleNo := 1, acc := .zero, firstRejection := none } }).startSampleWindow b) ∧
      (s.lowSeen b = true → x.supplyFailures = 0 →
        s.takeOutcome b (.refDone g) = ((s.setRef b (descRef d) { e with supplyRevoke := false }).setBank b { k with
          context := some { x with
            supplyFailures := 1, flags := { x.flags with supplyLowSeen := true } } }).startReferenceWindow b) ∧
      (s.lowSeen b = true → x.supplyFailures ≠ 0 → x.lease = none →
        let y := { x with flags := { x.flags with supplyLowSeen := true } }
        let drawn := { s with draws := s.draws + 1 }
        s.takeOutcome b (.refDone g) = failed b drawn y 2 ∨
        s.takeOutcome b (.refDone g) =
          drawn.setBank b { k with context := some { y with endDue := some (.failed .supplyLow) } })) ∧
  (∀ (b : Bank) (s : State) (x : Context),
      (s.bank b).seq = .reference → (s.bank b).context = some x → x.lease = none →
      let y := { x with flags := { x.flags with supplyLowSeen := x.flags.supplyLowSeen || s.lowSeen b } }
      let drawn := { s with draws := s.draws + 1 }
      s.takeOutcome b .refTimeout = failed b drawn y 1 ∨
      s.takeOutcome b .refTimeout =
        drawn.setBank b { s.bank b with context := some { y with endDue := some (.failed .timeout) } }) ∧
  (∀ (b : Bank) (s : State) (x : Context),
      s.cu.state = .running ∨ s.cu.state = .stopping →
      (s.bank b).seq = .reference → (s.bank b).context = some x → x.lease = none →
      (x.endDue = some (.failed .timeout) → s.deliverEnd b = failed b s { x with endDue := none } 1) ∧
      (x.endDue = some (.failed .supplyLow) → s.deliverEnd b = failed b s { x with endDue := none } 2))

/-- 03 sections 3.5.3 and 3.5.4: a sample outcome in MEASURING: the next sample, the next list entry, or the end
with the lease released, then the hold, then the record. 05 section 5.4: a low transition may be taken before the
releases, after the flag has been read, so the end is taken now or stays in flight (the free value of log 6), and is
then taken in RUNNING or STOPPING (03 section 3.8); REF_REVOKED is as the entry stands at the release. That the next start command follows the reading of the flag at once is the
model's choice (log 28). -/
def Obligations.SampleOutcomeAdvancesMeasure : Prop :=
  let ended (b : Bank) (s : State) (z : Context) (l : Lease) : State :=
    let d := s.headDesc b
    let e := s.ref b (descRef d)
    let flags := { z.flags with refRevoked := z.flags.refRevoked || e.state == .revoked }
    { s with
      refs := (s.setRef b (descRef d) (e.release (s.bank b).lifetime s.now)).refs,
      sm := (s.releaseHold b).sm,
      sched := (s.claimSkipped (s.headSource b)).sched,
      banks := s.banks.set b { s.bank b with
        seq := .posting,
        context := some { z with
          leaseHeld := false, hold := .none, flags := flags,
          record := some {
            slotCount := 1 + (descChannelCount d + 1) / 2, kind := 1,
            status := if z.results.all fun c => c.status == .ok then .success else .partialResult,
            flags := { flags with notify := descNotify d }, tag := descTag d, source := s.headSource b,
            bank := descBank d, ref := descRef d, gate := l.gate, nRef := l.nRef,
            generation := l.generation, startTime := z.startTime, endTime := s.now,
            detail := detailBytes 0 (BitVec.ofNat 8 (s.skippedOf (s.headSource b))) 0 0,
            channels := z.results, snapshot := [] } } } }
  (∀ (b : Bank) (s : State) (x : Context) (l : Lease) (o : Outcome) (n : BitVec 24),
    (s.bank b).seq = .measuring → (s.bank b).context = some x → x.lease = some l →
    o = .good n ∨ o = .openCircuit n ∨ o = .overflow →
    let d := s.headDesc b
    let k := s.bank b
    let y := x.addSample o (s.lowSeen b)
    let z := y.completeEntry d (channelStatus y.acc y.firstRejection)
    (x.sampleNo < descSamples d →
      s.takeOutcome b o =
        (s.setBank b { k with context := some { y with sampleNo := x.sampleNo + 1 } }).startSampleWindow b) ∧
    (descSamples d ≤ x.sampleNo → x.entryPos + 1 < descChannelCount d →
      s.takeOutcome b o = (s.setBank b { k with
        context := some { z with
          entryPos := x.entryPos + 1, sampleNo := 1, acc := .zero,
          firstRejection := none } }).startSampleWindow b) ∧
    (descSamples d ≤ x.sampleNo → descChannelCount d ≤ x.entryPos + 1 →
      let drawn := { s with draws := s.draws + 1 }
      s.takeOutcome b o = ended b drawn z l ∨
      s.takeOutcome b o = drawn.setBank b { k with context := some { z with endDue := some .complete } })) ∧
  (∀ (b : Bank) (s : State) (x : Context) (l : Lease), s.cu.state = .running ∨ s.cu.state = .stopping →
    (s.bank b).seq = .measuring → (s.bank b).context = some x → x.lease = some l → x.endDue = some .complete →
    s.deliverEnd b = ended b s { x with endDue := none } l)

/-! ### Admission (03 section 3.2) -/

/-- 03 section 3.2: the order of the arbiter. A READY entry for the bank goes before every ring, the lowest
number first; the rings go in round robin after the last admitted ring. 03 section 3.2: ADMISSION at the queue
and at the owner together; an IDLE sequencer takes the descriptor at once. That the status-area write finds the
ring already IDLE is the model's choice (log 25). -/
def Obligations.AdmissionChoosesAndMoves : Prop :=
  (∀ (b : Bank) (s : State),
      (∀ c, s.grantable b = some c → s.working = true ∧ (s.bank b).queue.length < 4) ∧
      (∀ e d, s.grantable b = some (.schedule e d) →
        (s.entry e).state = .ready ∧ (s.entry e).held = some d ∧ descBank d = b ∧
        ∀ e' d', e' < e → (s.entry e').state = .ready → (s.entry e').held = some d' → descBank d' ≠ b) ∧
      (∀ n d, s.grantable b = some (.ring n d) →
        (s.ring n).state = .blocked ∧ (s.ring n).staging = some d ∧ descBank d = b ∧
        (∀ e' d', (s.entry e').state = .ready → (s.entry e').held = some d' → descBank d' ≠ b) ∧
        ∀ k : Nat, 1 ≤ k → k < (n.val + 4 - (s.bank b).lastAdmitted.val - 1) % 4 + 1 →
          ∀ d', (s.ring (Fin.ofNat 4 ((s.bank b).lastAdmitted.val + k))).state = .blocked →
            (s.ring (Fin.ofNat 4 ((s.bank b).lastAdmitted.val + k))).staging = some d' → descBank d' ≠ b) ∧
      (s.working = true → (s.bank b).queue.length < 4 → s.grantable b = none →
        (∀ e d, (s.entry e).state = .ready → (s.entry e).held = some d → descBank d ≠ b) ∧
        ∀ n d, (s.ring n).state = .blocked → (s.ring n).staging = some d → descBank d ≠ b)) ∧
  (∀ (b : Bank) (s : State), s.resetAsserted = false →
      (∀ (n : Ring) (d : Bytes), s.grantable b = some (.ring n d) →
        let r := s.ring n
        let q : QueueEntry := { desc := d, source := .ring n, flushed := false }
        let t := ((s.setRing n { r with
            staging := none, consumed := r.consumed + 1, outstanding := r.outstanding + 1,
            state := .idle }).writeStatus).setBank b { s.bank b with
          lastAdmitted := n, queue := (s.bank b).queue ++ [q] }
        exec (.admission b) s = .next (if (s.bank b).seq = .idle then t.takeHead b else t)) ∧
      (∀ (e : Entry) (d : Bytes), s.grantable b = some (.schedule e d) →
        let q : QueueEntry := { desc := d, source := .schedule e, flushed := false }
        let t := (s.setEntry e { s.entry e with state := .outstanding, held := none }).setBank b { s.bank b with
          queue := (s.bank b).queue ++ [q] }
        exec (.admission b) s = .next (if (s.bank b).seq = .idle then t.takeHead b else t)) ∧
      (s.grantable b = none → exec (.admission b) s = .next s))

/-! ### Bank abort (chapter 4) -/

/-- 04 section 4.1: which controller states take a BANK_ABORT, and which banks it reaches; that the banks of one
write are aborted one after another within the one command is the model's choice (log 27). 04 sections 4.2 and 4.3: in
POSTING the formed record stands and the entries behind are flushed, all with their places kept; in IDLE an
abort has no effect. -/
def Obligations.BankAbortAndFlush : Prop :=
  (∀ (v : BitVec 32) (s : State), s.resetAsserted = false →
      (s.cu.state ≠ .running → s.cu.state ≠ .stopping → exec (.bankAbort v) s = .next s) ∧
      (s.cu.state = .running ∨ s.cu.state = .stopping →
        exec (.bankAbort v) s = .next
          ((List.finRange 4).foldl (fun t b => if v.getLsbD b.val then t.abortBank b else t) s)) ∧
      (s.cu.state = .running ∨ s.cu.state = .stopping → ∀ b : Bank, (∀ i < 4, v.getLsbD i = (i == b.val)) →
        exec (.bankAbort v) s = .next (s.abortBank b)) ∧
      ((∀ i < 4, v.getLsbD i = false) → exec (.bankAbort v) s = .next s)) ∧
  (∀ (b : Bank) (s : State),
      ((s.bank b).seq = .idle → s.abortBank b = s) ∧
      ((s.bank b).seq = .posting →
        (∀ q qs, (s.bank b).queue = q :: qs → s.abortBank b = s.setBank b { s.bank b with
          queue := q :: qs.map fun p => { p with flushed := true } }) ∧
        ((s.bank b).queue = [] → s.abortBank b = s)) ∧
      ∀ q qs, (s.bank b).seq ≠ .idle → (s.bank b).queue = q :: qs →
        ((s.abortBank b).bank b).queue = q :: qs.map fun p => { p with flushed := true })

/-- 04 section 4.2, STARTING, REFERENCE and MEASURING: the ABORTED record, the releases, the stop of the cell,
and the flush of the entries behind. A supply-low notice still in flight is taken after the release (log 6). With the
end of the MEASURE in flight the outcome comes first: the MEASURE ends by its own rule, and the abort finds POSTING. -/
def Obligations.AbortEndsActiveMeasure : Prop :=
  (∀ (b : Bank) (s : State) (q : QueueEntry) (qs : List QueueEntry), s.endInFlight b ≠ none →
    (s.bank b).queue = q :: qs →
    let t := s.deliverEnd b
    (t.bank b).seq = .posting ∧
    s.abortBank b = t.setBank b { t.bank b with queue := q :: qs.map fun p => { p with flushed := true } }) ∧
  ∀ (b : Bank) (s : State) (x : Context) (q : QueueEntry) (qs : List QueueEntry),
    (s.bank b).context = some x → (s.bank b).queue = q :: qs → x.endDue = none →
    let k := s.bank b
    let d := q.desc
    let e := s.ref b (descRef d)
    let flushed := q :: qs.map fun p => { p with flushed := true }
    let stopped := (s.setCell b { s.cell b with
      state := .stopped, mux := .none, gateTimer := 0, refCounter := 0, sensorCounter := 0 }).cells
    let notRun := fun i : Nat =>
      ({ channel := descChannel d i, status := .notRun, good := 0, rejected := 0, limit := .none, sum := 0,
         ratio := 0 } : ChannelEntry)
    let aborted (flags : RecordFlags) (l : Lease) (cs : List ChannelEntry) : Record := {
      slotCount := 1 + (descChannelCount d + 1) / 2, kind := 1, status := .aborted,
      flags := { flags with notify := descNotify d }, tag := descTag d, source := q.source, bank := descBank d,
      ref := descRef d, gate := l.gate, nRef := l.nRef, generation := l.generation, startTime := x.startTime,
      endTime := s.now, detail := detailBytes 0 (BitVec.ofNat 8 (s.skippedOf q.source)) 0 0, channels := cs,
      snapshot := [] }
    let noLease : Lease := { gate := 0, nRef := descNRef d, generation := 0 }
    let all := (List.range (descChannelCount d)).map notRun
    (k.seq = .starting → x.lease = none → s.abortBank b = { s with
      sm := (s.releaseHold b).sm, sched := (s.claimSkipped q.source).sched,
      banks := s.banks.set b { k with
        queue := flushed, seq := .posting,
        context := some { x with hold := .none, record := some (aborted x.flags noLease all) } } }) ∧
    (k.seq = .reference → x.lease = none → s.abortBank b = { s with
      cells := stopped,
      refs := (s.setRef b (descRef d) { e with
        state := .empty, revokePending := false, supplyRevoke := false }).refs,
      sm := (s.releaseHold b).sm, sched := (s.claimSkipped q.source).sched,
      banks := s.banks.set b { k with
        queue := flushed, seq := .posting,
        context := some { x with hold := .none, record := some (aborted x.flags noLease all) } } }) ∧
    ∀ l, k.seq = .measuring → x.lease = some l →
      let y := x.completeEntry d .aborted
      let flags := { y.flags with refRevoked := y.flags.refRevoked || e.state == .revoked }
      s.abortBank b = { s with
        cells := stopped,
        refs := (s.setRef b (descRef d) (e.release k.lifetime s.now)).refs,
        sm := (s.releaseHold b).sm, sched := (s.claimSkipped q.source).sched,
        banks := s.banks.set b { k with
          queue := flushed, seq := .posting,
          context := some { y with
            leaseHeld := false, hold := .none, flags := flags,
            record := some (aborted flags l
              (y.results ++ ((List.range (descChannelCount d)).drop (x.entryPos + 1)).map notRun)) } } }

/-- 04 section 4.6: an abort leaves the rings, the scheduler but for the skipped count handed over for the active
instance, the completion writer, the other banks with their cells, entries and holders, the bank's parameters and the
threshold as they are. -/
def Obligations.AbortConfinedToBank : Prop :=
  ∀ (b : Bank) (s : State),
    let t := s.abortBank b
    t.rings = s.rings ∧ t.fu = s.fu ∧ t.cw = s.cw ∧ t.hp = s.hp ∧ t.eu = s.eu ∧ t.cu = s.cu ∧
    (∀ e, { t.entry e with skipped := (s.entry e).skipped } = s.entry e) ∧
    (∀ e, s.headSource b ≠ .schedule e → t.entry e = s.entry e) ∧
    (∀ c, c ≠ b → t.bank c = s.bank c ∧ t.cell c = s.cell c ∧ t.holder c = s.holder c ∧
      ∀ r, t.ref c r = s.ref c r) ∧
    (∀ r, r ≠ descRef (s.headDesc b) → t.ref b r = s.ref b r) ∧
    (t.bank b).enabled = (s.bank b).enabled ∧ (t.bank b).lifetime = (s.bank b).lifetime ∧
    (t.sm.state ≠ .off → t.sm.level = s.sm.level ∧ t.sm.settleTime = s.sm.settleTime ∧
      t.sm.pendingParams = s.sm.pendingParams)

/-! ### The supply monitor (chapter 5) -/

/-- 05 section 5.4: a low transition in WATCHING marks every GRANTED holder, sends its bank a notice, and sets
SUPPLY_LOW. 05 section 5.1: every other move of AVDD has no further effect than the level and the reading: LOW
below the threshold, HIGH above it by more than 0.05 V, its last value between them; in OFF there is no reading.
Each of the three commands moves AVDD to the level it carries (model: log 5). A notice is taken now or stays in flight
(log 6). -/
def Obligations.ComparatorEvents : Prop :=
  (∀ (c : Instr) (mv : Nat) (s : State), c = .lowTransition mv ∨ c = .comparatorReadsHigh mv ∨
        c = .comparatorReadsLow mv →
      s.resetAsserted = false → s.sm.state = .watching → s.sm.reading = some .high →
      mv < 2700 + 100 * s.sm.level →
      ∃ t, exec c s = .next t ∧
        t = { s with
          avdd := mv, sm := t.sm, refs := t.refs, draws := t.draws, eu := { s.eu with cause := s.eu.cause ||| 8 } } ∧
        t.sm = { s.sm with reading := some .low, holders := t.sm.holders } ∧
        (∀ b, t.holder b = (s.holder b).map fun h =>
          if h.status = .granted then { h with lowSeen := true } else h) ∧
        ∀ b,
          ((s.holder b).any (fun h => h.status == .granted) = false → t.refs[b] = s.refs[b]) ∧
          ((s.holder b).any (fun h => h.status == .granted) = true →
            t.refs[b] = { s.refs[b] with entryA := (s.ref b .a).supplyLow, entryB := (s.ref b .b).supplyLow } ∨
            t.refs[b] = { s.refs[b] with noticeDue := true })) ∧
  (∀ (c : Instr) (mv : Nat) (s : State), c = .lowTransition mv ∨ c = .comparatorReadsHigh mv ∨
        c = .comparatorReadsLow mv →
      s.resetAsserted = false →
      let threshold := 2700 + 100 * s.sm.level
      (s.sm.state ≠ .off → threshold + 50 < mv →
        exec c s = .next { s with avdd := mv, sm := { s.sm with reading := some .high } }) ∧
      (s.sm.state ≠ .off → threshold ≤ mv → mv ≤ threshold + 50 → exec c s = .next { s with avdd := mv }) ∧
      (s.sm.state = .settling ∨ (s.sm.state = .watching ∧ s.sm.reading = some .low) → mv < threshold →
        exec c s = .next { s with avdd := mv, sm := { s.sm with reading := some .low } }) ∧
      (s.sm.state = .off → exec c s = .next { s with avdd := mv }))

/-- 05:R87. A release removes its holder; the one that empties the set turns the monitor off and puts the
pending parameters in force. -/
def Obligations.HoldReleaseTurnsMonitorOff : Prop :=
  ∀ (b : Bank) (s : State),
    (s.holder b = none → s.releaseHold b = s) ∧
    ((s.holder b).isSome → (∃ c, c ≠ b ∧ (s.holder c).isSome) → s.releaseHold b = s.setHolder b none) ∧
    ((s.holder b).isSome → (∀ c, c ≠ b → s.holder c = none) → s.releaseHold b = { s with sm := {
      state := .off, settleTimer := 0, reading := none, holders := .replicate 4 none, pendingParams := none,
      level := match s.sm.pendingParams with
        | none => s.sm.level
        | some p => p.level
      settleTime := match s.sm.pendingParams with
        | none => s.sm.settleTime
        | some p => p.settleTime } })

/-! ### The scan scheduler (chapter 9) -/

/-- 09:R143 with the advance of 09:R142: an expiry of a due entry requests its template from ARMED, and in every
other state is skipped with OVERRUN, the count held at 255. 09:R142. No entry expires in FREE, in a state other
than RUNNING, or at another time. -/
def Obligations.ExpiryRequestsOrSkips : Prop :=
  (∀ (e : Entry) (s : State), s.resetAsserted = false → s.cu.state = .running → (s.entry e).nextExpiry = s.now →
      let x := s.entry e
      let next := x.nextExpiry + BitVec.ofNat 32 (x.periodMs.toNat * 1000)
      (x.state = .armed → exec (.scheduleExpiry e) s = .next (s.setEntry e { x with
        state := .fetching, phase := .requested, nextExpiry := next })) ∧
      (x.state = .fetching ∨ x.state = .ready ∨ x.state = .outstanding ∨ x.state = .clearing →
        exec (.scheduleExpiry e) s = .next { s.setEntry e { x with
          nextExpiry := next, skipped := if x.skipped < 255 then x.skipped + 1 else 255 } with
            eu := { s.eu with cause := s.eu.cause ||| 4 } })) ∧
  (∀ (e : Entry) (s : State),
      s.cu.state ≠ .running ∨ (s.entry e).state = .free ∨ (s.entry e).nextExpiry ≠ s.now →
      exec (.scheduleExpiry e) s = .next s)

/-- 09 section 9.2: SET_SCHEDULE by the entry's state and the REPLACE option, its record, and the ring's part. A
first delay of 0 in RUNNING expires within the command (log 3). 09 section 9.6: CLEAR_SCHEDULE by the entry's
state, its record with the state found and the skipped count, and the ring's part. 07 section 7.4.7: the codes of
the schedule entry states in those records. -/
def Obligations.ScheduleSetAndCleared : Prop :=
  ([SchedState.free, .armed, .fetching, .ready, .outstanding, .clearing].map SchedState.code =
      [0, 1, 2, 3, 4, 5]) ∧
  (∀ (n : Ring) (s : State) (d : Bytes), s.resetAsserted = false →
      s.cu.state = .running ∨ s.cu.state = .stopping → (s.ring n).state = .staged →
      (s.ring n).staging = some d → descKind d = 6 →
      let e := descEntry d
      let x := s.entry e
      let record (st : RecordStatus) : Record := {
        slotCount := 1, kind := 6, status := st, flags := { RecordFlags.clear with notify := descNotify d },
        tag := descTag d, source := .ring n, bank := 0, ref := .a, gate := 0, nRef := 0, generation := 0,
        startTime := (s.ring n).stagedAt, endTime := (s.ring n).stagedAt,
        detail := detailBytes (BitVec.ofNat 8 e.val) x.state.code 0 0, channels := [], snapshot := [] }
      let posting (t : State) (st : RecordStatus) :=
        (t.setRing n { s.ring n with state := .posting }).pushRecord (record st)
      let delay := BitVec.ofNat 32 ((descFirstDelay d).toNat * 1000)
      let period := BitVec.ofNat 32 ((descPeriod d).toNat * 1000)
      let armed := { x with
        state := .armed, template := descTemplate d, periodMs := descPeriod d, nextExpiry := s.now + delay,
        skipped := 0, ending := .normal, phase := .requested }
      (x.state = .free ∨ (x.state = .armed ∧ descReplace d = true) →
        ¬ (s.cu.state = .running ∧ descFirstDelay d = 0) →
        exec (.setSchedule n) s = .next (posting (s.setEntry e armed) .success)) ∧
      (x.state = .free ∨ (x.state = .armed ∧ descReplace d = true) →
        s.cu.state = .running → descFirstDelay d = 0 →
        exec (.setSchedule n) s = .next (posting
          (s.setEntry e { armed with state := .fetching, nextExpiry := s.now + period }) .success)) ∧
      ((x.state = .fetching ∨ x.state = .ready ∨ x.state = .outstanding) → descReplace d = true →
        exec (.setSchedule n) s = .next (posting (s.setEntry e { x with
          template := descTemplate d, periodMs := descPeriod d, skipped := 0, ending := .normal }) .success)) ∧
      (x.state = .clearing ∨
        (descReplace d = false ∧
          (x.state = .armed ∨ x.state = .fetching ∨ x.state = .ready ∨ x.state = .outstanding)) →
        exec (.setSchedule n) s = .next (posting s .entryBusy))) ∧
  (∀ (n : Ring) (s : State) (d : Bytes), s.resetAsserted = false →
      s.cu.state = .running ∨ s.cu.state = .stopping → (s.ring n).state = .staged →
      (s.ring n).staging = some d → descKind d = 7 →
      let e := descEntry d
      let x := s.entry e
      exec (.clearSchedule n) s = .next (((s.setEntry e
          (match x.state with
            | .free => { x with skipped := 0 }
            | .armed | .fetching => { x with state := .free, skipped := 0 }
            | .ready => { x with state := .free, held := none, skipped := 0 }
            | .outstanding | .clearing => { x with state := .clearing, skipped := 0 })
          ).setRing n { s.ring n with state := .posting }).pushRecord {
        slotCount := 1, kind := 7, status := .success,
        flags := { RecordFlags.clear with notify := descNotify d }, tag := descTag d, source := .ring n, bank := 0,
        ref := .a, gate := 0, nRef := 0, generation := 0, startTime := (s.ring n).stagedAt,
        endTime := (s.ring n).stagedAt,
        detail := detailBytes (BitVec.ofNat 8 e.val) x.state.code (BitVec.ofNat 8 x.skipped) 0,
        channels := [], snapshot := [] }))

/-! ### Submission rings and the fetch unit (chapter 6) -/

/-- 06 section 6.2: a SUBMIT in each controller state: tested in RUNNING, refused with HOST_ERROR elsewhere,
ignored in RESETTING. -/
def Obligations.SubmitAcceptedOrRefused : Prop :=
  ∀ (v : BitVec 32) (s : State), s.resetAsserted = false →
    let n : Ring := Fin.ofNat 4 (v.extractLsb' 16 2).toNat
    let t : Index := v.extractLsb' 0 16
    let r := s.ring n
    let ok := r.state ≠ .disabled ∧ r.state ≠ .error ∧ (t - r.consumed).toNat ≤ r.size ∧
      (r.state = .fetching ∨ r.state = .staged ∨ r.state = .blocked ∨ r.state = .posting ∨ r.state = .fenced →
        t ≠ r.consumed)
    (s.cu.state = .running → ok → exec (.submit v) s = .next (s.setRing n { r with tail := t })) ∧
    (s.cu.state = .running → ¬ ok →
      exec (.submit v) s = .next { s with eu := { s.eu with cause := s.eu.cause ||| 32 } }) ∧
    (s.cu.state ≠ .running → s.cu.state ≠ .resetting →
      exec (.submit v) s = .next { s with eu := { s.eu with cause := s.eu.cause ||| 32 } }) ∧
    (s.cu.state = .resetting → exec (.submit v) s = .next s)

/-- 06 section 6.3.1: a ring read is issued for the first candidate in round robin after the last fetched ring,
in RUNNING, with no read in flight and no template request waiting. 06 section 6.3.1 and 09 section 9.4: a
template read is issued before any ring read, for the lowest entry, at the template address held at that moment;
the last fetched ring is unchanged. 06 section 6.3.1: the arbiter issues nothing outside RUNNING, with a
descriptor read in flight, or with no candidate waiting. An address sum that fits in 64 bits is the sum; any other is the free value of log 11. -/
def Obligations.FetchArbiterIssuesReads : Prop :=
  (∀ (s : State) (j : Nat), s.resetAsserted = false → s.cu.state = .running → s.hp.read = none →
      (∀ e, ¬ ((s.entry e).state = .fetching ∧ (s.entry e).phase = .requested)) →
      let at_ (k : Nat) : Ring := Fin.ofNat 4 (s.fu.lastFetched.val + k)
      let wants (n : Ring) := (s.ring n).state = .idle ∧ (s.ring n).tail ≠ (s.ring n).consumed
      1 ≤ j → j ≤ 4 → wants (at_ j) → (∀ k, 1 ≤ k → k < j → ¬ wants (at_ k)) →
      let n := at_ j
      let r := s.ring n
      exec .ringReadIssue s = .next { s.setRing n { r with state := .fetching } with
        fu := { s.fu with lastFetched := n },
        hp := { s.hp with read := some (.ring n (addressSum r.base (r.consumed.toNat % r.size * 64))) } }) ∧
  (∀ (s : State) (e : Entry), s.resetAsserted = false → s.cu.state = .running → s.hp.read = none →
      (s.entry e).state = .fetching → (s.entry e).phase = .requested →
      (∀ i, i < e → ¬ ((s.entry i).state = .fetching ∧ (s.entry i).phase = .requested)) →
      exec .templateReadIssue s = .next { s.setEntry e { s.entry e with phase := .reading } with
        hp := { s.hp with read := some (.template e (s.entry e).template) } } ∧
      exec .ringReadIssue s = .next s) ∧
  (∀ s : State, s.cu.state ≠ .running ∨ s.hp.read ≠ none →
      exec .ringReadIssue s = .next s ∧ exec .templateReadIssue s = .next s) ∧
  (∀ s : State, (∀ e, ¬ ((s.entry e).state = .fetching ∧ (s.entry e).phase = .requested)) →
      exec .templateReadIssue s = .next s ∧
      ((∀ n, ¬ ((s.ring n).state = .idle ∧ (s.ring n).tail ≠ (s.ring n).consumed)) →
        exec .ringReadIssue s = .next s)) ∧
  (∀ (base : Addr) (offset : Nat), base.toNat + offset < 18446744073709551616 →
      (addressSum base offset).toNat = base.toNat + offset)

/-- 06 sections 6.3.2, 6.4 and 6.5: an OKAY ring answer in RUNNING or STOPPING: a descriptor that passes is
staged (BLOCKED for the queued kinds; the other kinds stand STAGED until their own command, log 8), one that
fails gets its BAD_DESCRIPTOR record. 06 section 6.8: a ring read answered with a bus error: ERROR with the staging
slot empty, RING_ERROR, the status area, and a FETCH_ERROR record with the slot index. 07 section 7.4.6: the check
codes of those records. -/
def Obligations.RingReadAnswered : Prop :=
  ([CheckCode.badKind, .badBank, .badRef, .badChannelCount, .badChannel, .badSamples, .badNRef, .badLimits,
      .badRefMask, .badLevel, .badSettle, .badEntry, .badPeriod, .badTemplateAddr, .templateBusError].map
        CheckCode.code = [1, 2, 3, 4, 5, 6, 7, 8, 9, 10, 11, 12, 13, 14, 15]) ∧
  (∀ (s : State) (n : Ring) (a : Addr) (d : Bytes), s.resetAsserted = false →
      s.cu.state = .running ∨ s.cu.state = .stopping → s.hp.read = some (.ring n a) →
      (s.ring n).state = .fetching →
      let t := { s with hp := { s.hp with read := none } }
      let full (q : RingState) := { s.ring n with staging := some d, stagedAt := s.now, state := q }
      (checkDescriptor d = none → descKind d = 1 ∨ descKind d = 2 →
        exec (.ringReadAnswer (.okay d)) s = .next (t.setRing n (full .blocked))) ∧
      (checkDescriptor d = none → descKind d ≠ 1 → descKind d ≠ 2 →
        exec (.ringReadAnswer (.okay d)) s = .next (t.setRing n (full .staged))) ∧
      ∀ f, checkDescriptor d = some f →
        exec (.ringReadAnswer (.okay d)) s = .next ((t.setRing n (full .posting)).pushRecord {
          slotCount := 1, kind := descKind d, status := .badDescriptor,
          flags := { RecordFlags.clear with notify := descNotify d }, tag := descTag d, source := .ring n, bank := 0,
          ref := .a, gate := 0, nRef := 0, generation := 0, startTime := s.now, endTime := s.now,
          detail := detailBytes f.code.code (BitVec.ofNat 8 f.position) 0 0, channels := [], snapshot := [] })) ∧
  (∀ (s : State) (n : Ring) (a : Addr), s.resetAsserted = false →
      s.cu.state = .running ∨ s.cu.state = .stopping → s.hp.read = some (.ring n a) →
      (s.ring n).state = .fetching →
      let slot := (s.ring n).consumed.toNat % (s.ring n).size
      let t := { s with hp := { s.hp with read := none }, eu := { s.eu with cause := s.eu.cause ||| 16 } }.setRing n
        { s.ring n with state := .error, staging := none }
      exec (.ringReadAnswer .busError) s = .next (t.writeStatus.pushRecord {
        slotCount := 1, kind := 0, status := .fetchError, flags := RecordFlags.clear, tag := 0, source := .ring n,
        bank := 0, ref := .a, gate := 0, nRef := 0, generation := 0, startTime := s.now, endTime := s.now,
        detail := detailBytes (BitVec.ofNat 8 slot) (BitVec.ofNat 8 (slot / 256)) 0 0,
        channels := [], snapshot := [] }))

/-- 06 section 6.3.3 and 09 section 9.4: a template answer for an entry that still reads: READY with the
template, or OUTSTANDING with ending ERROR and a TEMPLATE_ERROR record; for any other entry it is discarded.
06:R117 and 09:R150: a descriptor read answered after a fault or in RESETTING is discarded, OKAY or error. -/
def Obligations.TemplateReadAnswered : Prop :=
  (∀ (s : State) (e : Entry) (p : Addr), s.resetAsserted = false →
      s.cu.state = .running ∨ s.cu.state = .stopping → s.hp.read = some (.template e p) →
      let t := { s with hp := { s.hp with read := none } }
      let x := s.entry e
      let failed (tag : BitVec 16) (f : CheckFailure) :=
        (t.setEntry e { x with state := .outstanding, ending := .error }).pushRecord {
          slotCount := 1, kind := 1, status := .templateError, flags := { RecordFlags.clear with notify := true },
          tag := tag, source := .schedule e, bank := 0, ref := .a, gate := 0, nRef := 0, generation := 0,
          startTime := s.now, endTime := s.now,
          detail := detailBytes f.code.code (BitVec.ofNat 8 f.position) 0 0, channels := [], snapshot := [] }
      (x.state = .fetching → x.phase = .reading →
        (∀ d, checkTemplate d = none →
          exec (.templateReadAnswer (.okay d)) s = .next (t.setEntry e { x with state := .ready, held := some d })) ∧
        (∀ d f, checkTemplate d = some f →
          exec (.templateReadAnswer (.okay d)) s = .next (failed (descTag d) f)) ∧
        exec (.templateReadAnswer .busError) s = .next (failed 0 ⟨.templateBusError, 0⟩)) ∧
      (¬ (x.state = .fetching ∧ x.phase = .reading) → ∀ a, exec (.templateReadAnswer a) s = .next t)) ∧
  (∀ (s : State) (a : ReadAnswer), s.resetAsserted = false → s.cu.state = .faulted ∨ s.cu.state = .resetting →
      (∀ n p, s.hp.read = some (.ring n p) →
        exec (.ringReadAnswer a) s = .next { s with hp := { s.hp with read := none } }) ∧
      ∀ e p, s.hp.read = some (.template e p) →
        exec (.templateReadAnswer a) s = .next { s with hp := { s.hp with read := none } })

/-- 06:R101. The first failing check of the table decides. 06 section 6.3.3: a template passes the checks of a
MEASURE, and any other kind is BAD_KIND. 07 section 7.1: where every field of a 64-byte
descriptor lies, multi-byte fields little-endian; the bytes from 36 on are ignored by validation, whatever they
hold. -/
def Obligations.FirstFailingCheckDecides : Prop :=
  (∀ d : Bytes, d.length = 64 →
      let byte (i : Nat) : Nat := (d.getD i 0).toNat
      let half (i : Nat) : Nat := byte i + 256 * byte (i + 1)
      let word (i : Nat) : Nat := half i + 65536 * half (i + 2)
      let bit (i k : Nat) : Bool := byte i / 2 ^ k % 2 == 1
      (∀ i, (byteAt d i).toNat = byte i ∧ (halfAt d i).toNat = half i ∧ (wordAt d i).toNat = word i ∧
        (dwordAt d i).toNat = word i + 4294967296 * word (i + 4)) ∧
      (descKind d).toNat = byte 0 ∧ descNotify d = bit 1 0 ∧ descForceRef d = bit 1 1 ∧ descLimits d = bit 1 2 ∧
      (descTag d).toNat = half 2 ∧
      (byte 4 ≤ 3 → (descBank d).val = byte 4) ∧ (byte 5 = 0 → descRef d = .a) ∧ (byte 5 = 1 → descRef d = .b) ∧
      descSamples d = byte 6 ∧ descSettle d = byte 7 ∧ (descNRef d).toNat = half 8 ∧
      descChannelCount d = byte 10 ∧ (descLimitLow d).toNat = word 12 ∧ (descLimitHigh d).toNat = word 16 ∧
      (∀ i, i < 16 → byte (20 + i) ≤ 15 → (descChannel d i).val = byte (20 + i)) ∧
      descEnabled d = (byte 5 != 0) ∧ (descLifetime d).toNat = half 6 ∧
      descNames d .a = bit 5 0 ∧ descNames d .b = bit 5 1 ∧
      descLevel d = byte 4 ∧ descSupplySettle d = byte 5 ∧
      (byte 4 ≤ 7 → (descEntry d).val = byte 4) ∧ descReplace d = bit 5 0 ∧ (descPeriod d).toNat = half 6 ∧
      (descFirstDelay d).toNat = half 8 ∧ (descTemplate d).toNat = word 12 + 4294967296 * word 16) ∧
  (∀ d : Bytes,
      let k := (descKind d).toNat
      let b4 := (byteAt d 4).toNat
      let bank := 3 < b4
      let ref := 1 < (byteAt d 5).toNat
      let count := descChannelCount d = 0 ∨ 16 < descChannelCount d
      let bad (i : Nat) := 15 < (byteAt d (20 + i)).toNat
      let samples := descSamples d = 0 ∨ 8 < descSamples d
      let nRef := (descNRef d).toNat < 64
      let limits := descLimits d = true ∧ (descLimitHigh d).toNat < (descLimitLow d).toNat
      (k = 0 ∨ 8 < k → checkDescriptor d = some ⟨.badKind, 0⟩) ∧
      (k = 1 →
        (bank → checkDescriptor d = some ⟨.badBank, 0⟩) ∧
        (¬ bank → ref → checkDescriptor d = some ⟨.badRef, 0⟩) ∧
        (¬ bank → ¬ ref → count → checkDescriptor d = some ⟨.badChannelCount, 0⟩) ∧
        (¬ bank → ¬ ref → ¬ count → ∀ i, i < descChannelCount d → bad i → (∀ j, j < i → ¬ bad j) →
          checkDescriptor d = some ⟨.badChannel, i⟩) ∧
        (¬ bank → ¬ ref → ¬ count → (∀ i, i < descChannelCount d → ¬ bad i) →
          checkDescriptor d = if samples then some ⟨.badSamples, 0⟩ else if nRef then some ⟨.badNRef, 0⟩
            else if limits then some ⟨.badLimits, 0⟩ else none)) ∧
      (k = 2 → checkDescriptor d = if bank then some ⟨.badBank, 0⟩ else none) ∧
      (k = 3 → checkDescriptor d = if bank then some ⟨.badBank, 0⟩
        else if (byteAt d 5).getLsbD 0 = false ∧ (byteAt d 5).getLsbD 1 = false then some ⟨.badRefMask, 0⟩
        else none) ∧
      (k = 4 ∨ k = 8 → checkDescriptor d = none) ∧
      (k = 5 → checkDescriptor d = if 15 < b4 then some ⟨.badLevel, 0⟩
        else if (byteAt d 5).toNat = 0 ∨ 16 < (byteAt d 5).toNat then some ⟨.badSettle, 0⟩ else none) ∧
      (k = 6 → checkDescriptor d = if 7 < b4 then some ⟨.badEntry, 0⟩
        else if descPeriod d = 0 then some ⟨.badPeriod, 0⟩
        else if (descTemplate d).toNat % 64 ≠ 0 then some ⟨.badTemplateAddr, 0⟩ else none) ∧
      (k = 7 → checkDescriptor d = if 7 < b4 then some ⟨.badEntry, 0⟩ else none)) ∧
  (∀ (d : Bytes) (i : Nat) (v : Byte), 36 ≤ i →
      checkDescriptor (d.set i v) = checkDescriptor d ∧ checkTemplate (d.set i v) = checkTemplate d) ∧
  (∀ d : Bytes,
      (descKind d = 1 → checkTemplate d = checkDescriptor d) ∧
      (descKind d ≠ 1 → checkTemplate d = some ⟨.badKind, 0⟩))

/-- 02:R34, 02:R35. INVALIDATE_REF: each named entry by its state, the record with what the invalidate found,
and the ring's part. The bank sequencers are unchanged. 02 section 2.8: REPORT_REFS copies the eight entries in
the order 0A to 3B and changes none. -/
def Obligations.InvalidateAndReportRefs : Prop :=
  (∀ (n : Ring) (s : State) (d : Bytes), s.resetAsserted = false →
      s.cu.state = .running ∨ s.cu.state = .stopping → (s.ring n).state = .staged →
      (s.ring n).staging = some d → descKind d = 3 →
      let b := descBank d
      let named : Ref → Bool
        | .a => (byteAt d 5).getLsbD 0
        | .b => (byteAt d 5).getLsbD 1
      let byte (r : Ref) : Byte := if named r = false then 0xFF
        else match (s.ref b r).state, (s.ref b r).leased with
          | .empty, false => 0 | .converting, false => 1 | .valid, false => 2 | .stale, false => 3
          | .revoked, false => 4 | .empty, true => 0x80 | .converting, true => 0x81 | .valid, true => 0x82
          | .stale, true => 0x83 | .revoked, true => 0x84
      ∃ t, exec (.invalidateRef n) s = .next t ∧
        t = { (s.setRing n { s.ring n with state := .posting }).pushRecord {
          slotCount := 1, kind := 3, status := .success, flags := { RecordFlags.clear with notify := descNotify d },
          tag := descTag d, source := .ring n, bank := b, ref := .a, gate := 0, nRef := 0, generation := 0,
          startTime := (s.ring n).stagedAt, endTime := (s.ring n).stagedAt,
          detail := detailBytes (byte .a) (byte .b) 0 0, channels := [], snapshot := [] } with refs := t.refs } ∧
        (∀ c : Bank, t.refs[c].noticeDue = s.refs[c].noticeDue) ∧
        ∀ c r, t.ref c r =
          if c = b ∧ named r = true then
            match (s.ref c r).state with
              | .empty => s.ref c r
              | .converting => { s.ref c r with revokePending := true }
              | .valid => { s.ref c r with state := if (s.ref c r).leased then .revoked else .empty }
              | .stale => { s.ref c r with state := .empty }
              | .revoked => s.ref c r
          else s.ref c r) ∧
  (∀ (n : Ring) (s : State) (d : Bytes), s.resetAsserted = false →
      s.cu.state = .running ∨ s.cu.state = .stopping → (s.ring n).state = .staged →
      (s.ring n).staging = some d → descKind d = 4 →
      let copy (b : Bank) (r : Ref) : SnapEntry := {
        state := (s.ref b r).state, leased := (s.ref b r).leased, generation := (s.ref b r).generation,
        gate := (s.ref b r).gate, nRef := (s.ref b r).nRef, age := (s.ref b r).snapAge s.now, bank := b, ref := r }
      exec (.reportRefs n) s = .next ((s.setRing n { s.ring n with state := .posting }).pushRecord {
        slotCount := 5, kind := 4, status := .success, flags := { RecordFlags.clear with notify := descNotify d },
        tag := descTag d, source := .ring n, bank := 0, ref := .a, gate := 0, nRef := 0, generation := 0,
        startTime := (s.ring n).stagedAt, endTime := (s.ring n).stagedAt, detail := 0, channels := [],
        snapshot := [copy 0 .a, copy 0 .b, copy 1 .a, copy 1 .b, copy 2 .a, copy 2 .b, copy 3 .a, copy 3 .b] }))

/-- 05 section 5.5: SET_SUPPLY is applied at once in OFF and deferred otherwise; its record reports the
disposition and the values in force. 06 section 6.6: a FENCE waits in FENCED for its ring's outstanding count,
or forms its record at once when the count is 0. -/
def Obligations.SetSupplyAndFence : Prop :=
  (∀ (n : Ring) (s : State) (d : Bytes), s.resetAsserted = false →
      s.cu.state = .running ∨ s.cu.state = .stopping → (s.ring n).state = .staged →
      (s.ring n).staging = some d → descKind d = 5 →
      let level := (byteAt d 4).toNat
      let settle := (byteAt d 5).toNat
      let posting (t : State) (disposition : Byte) (l u : Nat) :=
        (t.setRing n { s.ring n with state := .posting }).pushRecord {
          slotCount := 1, kind := 5, status := .success, flags := { RecordFlags.clear with notify := descNotify d },
          tag := descTag d, source := .ring n, bank := 0, ref := .a, gate := 0, nRef := 0, generation := 0,
          startTime := (s.ring n).stagedAt, endTime := (s.ring n).stagedAt,
          detail := detailBytes disposition (BitVec.ofNat 8 l) (BitVec.ofNat 8 u) 0, channels := [],
          snapshot := [] }
      (s.sm.state = .off → exec (.setSupply n) s = .next (posting
        { s with sm := { s.sm with level := level, settleTime := settle, pendingParams := none } }
        1 level settle)) ∧
      (s.sm.state ≠ .off → exec (.setSupply n) s = .next (posting
        { s with sm := { s.sm with pendingParams := some ⟨level, settle⟩ } } 2 s.sm.level s.sm.settleTime))) ∧
  (∀ (n : Ring) (s : State) (d : Bytes), s.resetAsserted = false →
      s.cu.state = .running ∨ s.cu.state = .stopping → (s.ring n).state = .staged →
      (s.ring n).staging = some d → descKind d = 8 →
      ((s.ring n).outstanding ≠ 0 → exec (.fence n) s = .next (s.setRing n
        { s.ring n with state := .fenced, fenceCount := (s.ring n).outstanding })) ∧
      ((s.ring n).outstanding = 0 → exec (.fence n) s = .next ((s.setRing n
        { s.ring n with state := .posting, fenceCount := 0 }).pushRecord {
          slotCount := 1, kind := 8, status := .success, flags := { RecordFlags.clear with notify := descNotify d },
          tag := descTag d, source := .ring n, bank := 0, ref := .a, gate := 0, nRef := 0, generation := 0,
          startTime := (s.ring n).stagedAt, endTime := s.now, detail := 0, channels := [], snapshot := [] })))

/-- 06 sections 6.5.3 and 6.6: the notices at the fetch unit: a posted bank record lowers its ring's outstanding
count and at 0 releases a FENCE with the count recorded; a posted fetch-unit record finishes its slot, but for a
FETCH_ERROR or a TEMPLATE_ERROR. That the status-area write finds the ring already IDLE is the model's choice (log
25). 09:R147. The notice of a posted record. -/
def Obligations.NoticesOfPosting : Prop :=
  (∀ (n : Ring) (s : State),
      let r := s.ring n
      (¬ (r.state = .fenced ∧ r.outstanding ≤ 1) →
        s.outstandingFalls n = s.setRing n { r with outstanding := r.outstanding - 1 }) ∧
      (∀ d, r.state = .fenced → r.outstanding = 1 → r.staging = some d →
        s.outstandingFalls n = (s.setRing n { r with outstanding := 0, state := .posting }).pushRecord {
          slotCount := 1, kind := descKind d, status := .success,
          flags := { RecordFlags.clear with notify := descNotify d }, tag := descTag d, source := .ring n, bank := 0,
          ref := .a, gate := 0, nRef := 0, generation := 0, startTime := r.stagedAt, endTime := s.now,
          detail := detailBytes (BitVec.ofNat 8 r.fenceCount) 0 0 0, channels := [], snapshot := [] }) ∧
      ∀ (p : Record) (ps : List Record), s.fu.posting = p :: ps →
        let t := { s with fu := { s.fu with posting := ps } }
        (p.status = .fetchError → s.fetchPosted p = t) ∧
        (∀ e, p.source = .schedule e → s.fetchPosted p = t) ∧
        (p.status ≠ .fetchError → p.source = .ring n → s.fetchPosted p =
          (t.setRing n { r with staging := none, consumed := r.consumed + 1, state := .idle }).writeStatus)) ∧
  (∀ x : SchedEntry,
      (x.state = .outstanding → x.ending = .normal → x.posted = { x with state := .armed }) ∧
      (x.state = .outstanding → x.ending = .error → x.posted = { x with state := .free, ending := .normal }) ∧
      (x.state = .clearing → x.posted = { x with state := .free, ending := .normal }))

/-- 06 section 6.7: a status-area write carries, as it is issued, the four consumed indices and state codes and
four zero bytes, behind the writes already in flight. 06 section 6.7 and 10 section 10.4: the answer to the
oldest status-area write in flight: that the oldest is the one answered is the model's choice (log 10). OKAY has no
further effect; a bus error is a fatal fault, counted in FAULTED and not reported in RESETTING. -/
def Obligations.StatusAreaWrittenAndAnswered : Prop :=
  (∀ s : State,
      let w : BusWrite := {
        kind := .status, addr := s.fu.statusAddr,
        bytes := [(s.ring 0).consumed.extractLsb' 0 8, (s.ring 0).consumed.extractLsb' 8 8,
          (s.ring 1).consumed.extractLsb' 0 8, (s.ring 1).consumed.extractLsb' 8 8,
          (s.ring 2).consumed.extractLsb' 0 8, (s.ring 2).consumed.extractLsb' 8 8,
          (s.ring 3).consumed.extractLsb' 0 8, (s.ring 3).consumed.extractLsb' 8 8,
          (s.ring 0).state.code, (s.ring 1).state.code, (s.ring 2).state.code, (s.ring 3).state.code, 0, 0, 0, 0] }
      s.writeStatus = { s with hp := { s.hp with writes := s.hp.writes ++ [w] } }) ∧
  (∀ (s : State) (before after : List BusWrite) (w : BusWrite), s.resetAsserted = false →
      s.hp.writes = before ++ w :: after → (∀ u ∈ before, u.kind ≠ .status) → w.kind = .status →
      let t := { s with hp := { s.hp with writes := before ++ after } }
      exec (.statusWriteAnswer .okay) s = .next t ∧
      (s.cu.state = .running ∨ s.cu.state = .stopping →
        exec (.statusWriteAnswer .busError) s = .next (t.enterFaulted .statusWriteError (w.addr.setWidth 16))) ∧
      (s.cu.state = .faulted → exec (.statusWriteAnswer .busError) s = .next { t with cu := { s.cu with
        subsequent := if s.cu.subsequent < 15 then s.cu.subsequent + 1 else 15 } }) ∧
      (s.cu.state = .resetting → exec (.statusWriteAnswer .busError) s = .next t))

/-! ### The completion ring (chapter 8) -/

/-- 08 section 8.4: every slot of every record is 32 bytes with the phase alone in its last byte. 07 section
7.2.1: where the fields of a header lie, little-endian, with the four detail bytes in order. 07 sections 7.2.2 and
7.3: list position i lies in following slot i / 2, in the half that i's parity gives; the entries-used byte is 1
in the last slot of an odd list, whose second half is 0. 07 section 7.2.3: the same of a snapshot's entries, with
where the fields of one lie. 07 sections 7.4.2 to 7.4.4 and 7.4.7: the codes of the statuses, of the limit results
and of the reference entry states. -/
def Obligations.SlotLayouts : Prop :=
  (∀ (r : Record) (j : Nat) (phase : Bool),
      (r.slotBytes j phase).length = 32 ∧ (r.slotBytes j phase).getLast? = some (if phase then 1 else 0)) ∧
  (∀ (r : Record) (phase : Bool),
      let h := r.slotBytes 0 phase
      byteAt h 0 = BitVec.ofNat 8 r.slotCount ∧ byteAt h 1 = r.kind ∧ byteAt h 2 = r.status.code ∧
      (byteAt h 3).getLsbD 0 = r.flags.notify ∧ (byteAt h 3).getLsbD 1 = r.flags.refConverted ∧
      (byteAt h 3).getLsbD 2 = r.flags.refRevoked ∧ (byteAt h 3).getLsbD 3 = r.flags.limitHit ∧
      (byteAt h 3).getLsbD 4 = r.flags.supplyLowSeen ∧ (byteAt h 3).getLsbD 5 = r.flags.saturated ∧
      (byteAt h 3).toNat < 64 ∧ halfAt h 4 = r.tag ∧
      (∀ n, r.source = .ring n → (byteAt h 6).toNat = n.val) ∧
      (∀ e, r.source = .schedule e → (byteAt h 6).toNat = 8 + e.val) ∧
      (byteAt h 7).toNat = r.bank.val + (if r.ref = .a then 0 else 16) ∧
      wordAt h 8 = r.gate.setWidth 32 ∧ halfAt h 12 = r.nRef ∧ halfAt h 14 = r.generation ∧
      wordAt h 16 = r.startTime ∧ wordAt h 20 = r.endTime ∧
      (∀ a b c d, r.detail = detailBytes a b c d →
        byteAt h 24 = a ∧ byteAt h 25 = b ∧ byteAt h 26 = c ∧ byteAt h 27 = d) ∧
      byteAt h 28 = 0 ∧ byteAt h 29 = 0 ∧ byteAt h 30 = 0) ∧
  (∀ (r : Record) (i : Nat) (c : ChannelEntry) (phase : Bool), r.snapshot = [] → r.channels[i]? = some c →
      let slot := r.slotBytes (1 + i / 2) phase
      (slot.drop (if i % 2 = 0 then 0 else 15)).take 15 = c.bytes ∧
      (i % 2 = 0 → i + 1 = r.channels.length →
        byteAt slot 30 = 1 ∧ (slot.drop 15).take 15 = List.replicate 15 0) ∧
      (i % 2 = 1 → byteAt slot 30 = 2) ∧
      byteAt c.bytes 0 = BitVec.ofNat 8 c.channel.val ∧ byteAt c.bytes 1 = c.status.code ∧
      byteAt c.bytes 2 = BitVec.ofNat 8 c.good ∧ byteAt c.bytes 3 = BitVec.ofNat 8 c.rejected ∧
      byteAt c.bytes 4 = c.limit.code ∧ wordAt c.bytes 5 = BitVec.ofNat 32 c.sum ∧
      wordAt c.bytes 9 = BitVec.ofNat 32 c.ratio ∧ byteAt c.bytes 13 = 0 ∧ byteAt c.bytes 14 = 0) ∧
  (∀ (r : Record) (i : Nat) (c : SnapEntry) (phase : Bool), r.channels = [] → r.snapshot[i]? = some c →
      let slot := r.slotBytes (1 + i / 2) phase
      (slot.drop (if i % 2 = 0 then 0 else 15)).take 15 = c.bytes ∧ (i % 2 = 1 → byteAt slot 30 = 2) ∧
      byteAt c.bytes 0 = c.state.code ∧ byteAt c.bytes 1 = (if c.leased then 1 else 0) ∧
      halfAt c.bytes 2 = c.generation ∧ wordAt c.bytes 4 = c.gate.setWidth 32 ∧ halfAt c.bytes 8 = c.nRef ∧
      halfAt c.bytes 10 = BitVec.ofNat 16 c.age ∧
      (byteAt c.bytes 12).toNat = c.bank.val + (if c.ref = .a then 0 else 16) ∧
      byteAt c.bytes 13 = 0 ∧ byteAt c.bytes 14 = 0) ∧
  ([RecordStatus.success, .partialResult, .refFailed, .aborted, .flushed, .bankDisabled, .badDescriptor, .fetchError,
      .templateError, .entryBusy].map RecordStatus.code = [0, 1, 2, 3, 4, 5, 6, 7, 8, 9]) ∧
  ([ChannelStatus.ok, .partialResult, .openCircuit, .overflow, .supplyLow, .aborted, .notRun].map
      ChannelStatus.code = [0, 1, 2, 3, 4, 5, 6]) ∧
  ([LimitResult.none, .inside, .below, .above].map LimitResult.code = [0, 1, 2, 3]) ∧
  ([RefState.empty, .converting, .valid, .stale, .revoked].map RefState.code = [0, 1, 2, 3, 4])

/-- 08 section 8.4: "Every slot of a record carries the phase of its own index", on both sides of the ring's end
and of the wrap of the 16-bit index. -/
def Obligations.SlotPhaseIsPhaseOfIndex : Prop :=
  ∀ (w : CompletionWriter) (e j : Nat), 4 ≤ e → e ≤ 12 → w.size = 2 ^ e → j < w.size →
    w.phase = phaseOfIndex w.size w.tail →
    w.slotPhase j = phaseOfIndex w.size (w.tail + BitVec.ofNat 16 j) ∧
    (w.tail.toNat + j < 65536 → w.slotPhase j = ((w.tail.toNat + j) / w.size % 2 == 0))

/-- 08 section 8.2: a sequencer's request is its formed record, in POSTING alone, and the fetch unit's is its oldest
listed record. The grant goes to the first requester with a request from the round-robin pointer on; nothing is
granted with no request, with a grant present, or outside RUNNING and STOPPING. 08 sections 8.2 to 8.4: a granted
record that fits is written: the following slots in order, or the header of a one-slot record; one that does not
fit stalls and sets CQ_STALL. -/
def Obligations.CompletionGrant : Prop :=
  (∀ s : State,
      (∀ b x, (s.bank b).seq = .posting → (s.bank b).context = some x → s.request (.bs b) = x.record) ∧
      (∀ b, (s.bank b).seq ≠ .posting ∨ (s.bank b).context = none → s.request (.bs b) = none) ∧
      (s.fu.posting = [] → s.request .fu = none) ∧
      (∀ r rs, s.fu.posting = r :: rs → s.request .fu = some r) ∧
      (s.nextRequest = none ↔ ∀ q, s.request q = none) ∧
      (s.nextRequest = none → exec .cqGrant s = .next s)) ∧
  ((∀ s : State, s.cw.grant ≠ .none ∨ (s.cu.state ≠ .running ∧ s.cu.state ≠ .stopping) → exec .cqGrant s = .next s) ∧
    ∀ (s : State) (g : Granted), s.nextRequest = some g →
      s.request g.requester = some g.record ∧
      ∃ before after, [s.cw.pointer, requesterAfter s.cw.pointer, requesterAfter (requesterAfter s.cw.pointer),
          requesterAfter (requesterAfter (requesterAfter s.cw.pointer)),
          requesterAfter (requesterAfter (requesterAfter (requesterAfter s.cw.pointer)))] =
        before ++ g.requester :: after ∧ ∀ q ∈ before, s.request q = none) ∧
  (∀ (s : State) (g : Granted), s.resetAsserted = false → s.cu.state = .running ∨ s.cu.state = .stopping →
      s.cw.grant = .none → s.nextRequest = some g →
      let free := s.cw.size - (s.cw.tail - s.cw.head).toNat
      let slot (kind : WriteKind) (j : Nat) : BusWrite := {
        kind := kind, addr := addressSum s.cw.base ((s.cw.tail + BitVec.ofNat 16 j).toNat % s.cw.size * 32),
        bytes := g.record.slotBytes j (s.cw.slotPhase j) }
      (g.record.slotCount ≤ free → g.record.slotCount = 1 → exec .cqGrant s = .next { s with
        cw := { s.cw with granted := some g, grant := .header },
        hp := { s.hp with writes := s.hp.writes ++ [slot .header 0] } }) ∧
      (g.record.slotCount ≤ free → 1 < g.record.slotCount → exec .cqGrant s = .next { s with
        cw := { s.cw with granted := some g, grant := .writing },
        hp := { s.hp with
          writes := s.hp.writes ++ (List.range (g.record.slotCount - 1)).map fun j => slot .following (j + 1) } }) ∧
      (free < g.record.slotCount → exec .cqGrant s = .next { s with
        cw := { s.cw with granted := some g, grant := .stalled },
        eu := { s.eu with cause := s.eu.cause ||| 64 } }))

/-- 08 section 8.4: the header is issued when the last following slot has been answered OKAY; until then the
record stays WRITING. The answers name writes in flight: the k-th write of a kind is taken out and the others
keep their order (logs 9, 10). -/
def Obligations.FollowingAnswersThenHeader : Prop :=
  (∀ (s : State) (k : Nat) (w : BusWrite) (ws : List BusWrite) (g : Granted), s.resetAsserted = false →
      s.cu.state = .running ∨ s.cu.state = .stopping → s.cw.grant = .writing → s.cw.granted = some g →
      takeWrite .following k s.hp.writes = some (w, ws) →
      ((∃ u ∈ ws, u.kind = .following) →
        exec (.followingSlotWriteAnswer k .okay) s = .next { s with hp := { s.hp with writes := ws } }) ∧
      ((∀ u ∈ ws, u.kind ≠ .following) →
        exec (.followingSlotWriteAnswer k .okay) s = .next { s with
          hp := { s.hp with writes := ws ++ [{
            kind := .header, addr := addressSum s.cw.base ((s.cw.tail + 0).toNat % s.cw.size * 32),
            bytes := g.record.slotBytes 0 (s.cw.slotPhase 0) }] },
          cw := { s.cw with grant := .header } })) ∧
  (∀ (kind : WriteKind) (k : Nat) (l : List BusWrite),
      (∀ w ws, takeWrite kind k l = some (w, ws) → w.kind = kind ∧
        ∃ before after, l = before ++ w :: after ∧ ws = before ++ after ∧
          (before.filter fun u => u.kind == kind).length = k) ∧
      (takeWrite kind k l = none → (l.filter fun u => u.kind == kind).length ≤ k))

/-- 08:R130, 08:R131, 08:R133. The OKAY answer to the header write posts the record: tail, phase, pointer and
grant, the COMPLETION and LIMIT causes, and the notices. 03 section 3.6: the posting notice at the sequencer:
the head leaves; with an entry behind it the sequencer takes that entry, otherwise it is IDLE. -/
def Obligations.HeaderAnswerPostsRecord : Prop :=
  (∀ (s : State) (g : Granted) (w : BusWrite) (ws : List BusWrite), s.resetAsserted = false →
      s.cu.state = .running ∨ s.cu.state = .stopping → s.cw.grant = .header → s.cw.granted = some g →
      takeWrite .header 0 s.hp.writes = some (w, ws) →
      let tail := s.cw.tail + BitVec.ofNat 16 g.record.slotCount
      let t := { s with
        hp := { s.hp with writes := ws },
        cw := { s.cw with
          tail := tail, phase := tail.toNat / s.cw.size % 2 == 0,
          pointer := (match g.requester with
            | .bs 0 => .bs 1
            | .bs 1 => .bs 2
            | .bs 2 => .bs 3
            | .bs 3 => .fu
            | .fu => .bs 0),
          grant := .none, granted := none },
        eu := { s.eu with
          cause := s.eu.cause ||| (if g.record.flags.notify then 1 else 0) |||
            (if g.record.flags.limitHit then 2 else 0) } }
      exec (.headerWriteAnswer .okay) s = .next (match g.requester, g.record.source with
        | .bs b, .ring n => (t.outstandingFalls n).sequencerPosted b
        | .bs b, .schedule e => (t.setEntry e (s.entry e).posted).sequencerPosted b
        | .fu, .ring _ => t.fetchPosted g.record
        | .fu, .schedule e =>
          (t.fetchPosted g.record).setEntry e ((t.fetchPosted g.record).entry e).posted)) ∧
  (∀ (b : Bank) (s : State) (q : QueueEntry) (qs : List QueueEntry), (s.bank b).queue = q :: qs →
      let t := s.setBank b { s.bank b with queue := qs, context := none, seq := .idle }
      (qs = [] → s.sequencerPosted b = t) ∧ (qs ≠ [] → s.sequencerPosted b = t.takeHead b))

/-- 08 section 8.7 and 10 section 10.4: a slot write answered with a bus error is CQ_WRITE_ERROR in RUNNING and
STOPPING; in FAULTED it is counted; in FAULTED and RESETTING an OKAY answer is discarded. -/
def Obligations.SlotWriteErrorIsFatal : Prop :=
  ∀ (s : State) (k : Nat) (w : BusWrite) (ws : List BusWrite), s.resetAsserted = false →
    let t := { s with hp := { s.hp with writes := ws } }
    let counted := { t with cu := { s.cu with
      subsequent := if s.cu.subsequent < 15 then s.cu.subsequent + 1 else 15 } }
    (takeWrite .following k s.hp.writes = some (w, ws) →
      (s.cu.state = .running ∨ s.cu.state = .stopping →
        exec (.followingSlotWriteAnswer k .busError) s =
          .next (t.enterFaulted .cqWriteError (w.addr.setWidth 16))) ∧
      (s.cu.state = .faulted → exec (.followingSlotWriteAnswer k .busError) s = .next counted) ∧
      (s.cu.state = .faulted ∨ s.cu.state = .resetting →
        exec (.followingSlotWriteAnswer k .okay) s = .next t) ∧
      (s.cu.state = .resetting → exec (.followingSlotWriteAnswer k .busError) s = .next t)) ∧
    (takeWrite .header 0 s.hp.writes = some (w, ws) →
      (s.cu.state = .running ∨ s.cu.state = .stopping →
        exec (.headerWriteAnswer .busError) s =
          .next (t.enterFaulted .cqWriteError (w.addr.setWidth 16))) ∧
      (s.cu.state = .faulted → exec (.headerWriteAnswer .busError) s = .next counted) ∧
      (s.cu.state = .faulted ∨ s.cu.state = .resetting → exec (.headerWriteAnswer .okay) s = .next t) ∧
      (s.cu.state = .resetting → exec (.headerWriteAnswer .busError) s = .next t))

/-- 08 section 8.6: a write to CQ_HEAD by the state and the value; an accepted one tests a stalled record again
without setting CQ_STALL. A read of CQ_HEAD returns the head in every state. -/
def Obligations.CqHeadReleasesSlots : Prop :=
  (∀ (v : BitVec 32) (s : State), s.resetAsserted = false →
      let h : Index := v.extractLsb' 0 16
      let fits := (h - s.cw.head).toNat ≤ (s.cw.tail - s.cw.head).toNat
      let tested := s.cu.state = .running ∨ s.cu.state = .stopping ∨ s.cu.state = .stopped
      let w := { s.cw with head := h }
      let slot (r : Record) (kind : WriteKind) (j : Nat) : BusWrite := {
        kind := kind, addr := addressSum s.cw.base ((s.cw.tail + BitVec.ofNat 16 j).toNat % s.cw.size * 32),
        bytes := r.slotBytes j (s.cw.slotPhase j) }
      (s.cu.state = .resetting → exec (.cqHead v) s = .next s) ∧
      (s.cu.state ≠ .resetting → ¬ (tested ∧ fits) →
        exec (.cqHead v) s = .next { s with eu := { s.eu with cause := s.eu.cause ||| 32 } }) ∧
      (tested → fits → s.cw.grant ≠ .stalled → exec (.cqHead v) s = .next { s with cw := w }) ∧
      ∀ g, tested → fits → s.cw.grant = .stalled → s.cw.granted = some g →
        (s.cw.size - (s.cw.tail - h).toNat < g.record.slotCount → exec (.cqHead v) s = .next { s with cw := w }) ∧
        (g.record.slotCount ≤ s.cw.size - (s.cw.tail - h).toNat → g.record.slotCount = 1 →
          exec (.cqHead v) s = .next { s with
            cw := { w with grant := .header },
            hp := { s.hp with writes := s.hp.writes ++ [slot g.record .header 0] } }) ∧
        (g.record.slotCount ≤ s.cw.size - (s.cw.tail - h).toNat → 1 < g.record.slotCount →
          exec (.cqHead v) s = .next { s with
            cw := { w with grant := .writing },
            hp := { s.hp with
              writes := s.hp.writes ++
                (List.range (g.record.slotCount - 1)).map fun j => slot g.record .following (j + 1) } })) ∧
  (∀ s : State, s.readAccess 0x18 = s.cw.head.setWidth 32)

/-! ### The life cycle (chapter 10) -/

/-- 10:R152. The table of CONTROL writes with SOFT_RESET 0. 10 section 10.3, 09 section 9.7: entry to STOPPING
withdraws every instance that has not been admitted and changes nothing else; STOPPED follows at once when
everything is drained. A write with SOFT_RESET 1 does not use its ENABLE value, and SOFT_RESET reads 0. -/
def Obligations.ControlWrites : Prop :=
  (∀ s : State, s.resetAsserted = false →
      let refused := { s with eu := { s.eu with cause := s.eu.cause ||| 32 } }
      let loading (r : ReturnState) := { s.cu with
        state := .loading, enable := true, returnState := r, loadAbandoned := false }
      (∀ r : ReturnState, s.cu.state = r.control → s.cu.setupAddr.toNat % 64 = 0 →
        exec (.enable true) s = .next { s with
          cu := loading r, hp := { s.hp with setupRead := some s.cu.setupAddr } }) ∧
      (∀ r : ReturnState, s.cu.state = r.control → s.cu.setupAddr.toNat % 64 ≠ 0 →
        exec (.enable true) s =
          .next ({ s with cu := loading r }.enterFaulted .setupInvalid (s.cu.setupAddr.setWidth 16))) ∧
      (s.cu.state = .off ∨ s.cu.state = .stopping ∨ s.cu.state = .stopped → exec (.enable false) s = .next s) ∧
      (s.cu.state = .loading → ∀ on, exec (.enable on) s = .next { s with
        cu := { s.cu with enable := on, loadAbandoned := !on } }) ∧
      (s.cu.state = .running → exec (.enable true) s = .next s) ∧
      (s.cu.state = .running → ∃ t, exec (.enable false) s = .next t ∧ t.cu.enable = false ∧
        (t.cu.state = .stopping ∨ t.cu.state = .stopped)) ∧
      (s.cu.state = .stopping ∨ s.cu.state = .faulted → exec (.enable true) s = .next refused) ∧
      (s.cu.state = .faulted → exec (.enable false) s = .next { s with cu := { s.cu with enable := false } }) ∧
      (s.cu.state = .resetting → ∀ on, exec (.enable on) s = .next s)) ∧
  (∀ s : State, s.resetAsserted = false → s.cu.state = .running →
      let t := { s with
        cu := { s.cu with state := .stopping, enable := false },
        sched := s.sched.map fun x =>
          if x.state = .fetching then { x with state := .armed, phase := .requested }
          else if x.state = .ready then { x with state := .armed, held := none } else x }
      (t.drained = false → exec (.enable false) s = .next t) ∧
      (t.drained = true → exec (.enable false) s = .next { t with
        cu := { t.cu with state := .stopped }, eu := { s.eu with cause := s.eu.cause ||| 128 } })) ∧
  (∀ s : State, exec (.softReset true) s = exec (.softReset false) s ∧ (s.readAccess 0x04).getLsbD 1 = false)

/-- 10:R158. STOPPED is entered, with its cause, exactly when the four conditions hold together. -/
def Obligations.DrainEntersStopped : Prop :=
  ∀ s : State, s.resetAsserted = false →
    let idle := s.hp.read = none ∧ s.fu.posting = [] ∧
      (∀ n, (s.ring n).state = .idle ∨ (s.ring n).state = .disabled ∨ (s.ring n).state = .error) ∧
      (∀ b, (s.bank b).queue = [] ∧ (s.bank b).seq = .idle) ∧
      s.cw.grant = .none ∧ (∀ q, s.request q = none) ∧ s.hp.inFlight = 0
    (s.cu.state = .stopping → idle → exec .drainComplete s = .next { s with
      cu := { s.cu with state := .stopped }, eu := { s.eu with cause := s.eu.cause ||| 128 } }) ∧
    (s.cu.state ≠ .stopping ∨ ¬ idle → exec .drainComplete s = .next s)

/-- 10 section 10.2: the answer to the setup read: discarded when the load was abandoned, a fatal fault when it
is an error or fails a check, and otherwise the end of LOADING, with each block's part. That an abandoned load which
returns to STOPPED sets no cause is the model's choice between 10:R153 and 11:R164 (log 29). 10 section 10.5: in
RESETTING the answer, OKAY or error, is discarded and no fault is reported. -/
def Obligations.SetupAnswerEndsLoading : Prop :=
  (∀ (s : State) (p : Addr) (a : ReadAnswer), s.resetAsserted = false → s.cu.state = .resetting →
    s.hp.setupRead = some p →
    exec (.setupReadAnswer a) s = .next { s with hp := { s.hp with setupRead := none } }) ∧
  ∀ (s : State) (p : Addr), s.resetAsserted = false → s.cu.state = .loading → s.hp.setupRead = some p →
    let t := { s with hp := { s.hp with setupRead := none } }
    (s.cu.loadAbandoned = true → ∀ a, exec (.setupReadAnswer a) s = .next { t with
      cu := { s.cu with
        state := (match s.cu.returnState with
          | .off => .off
          | .stopped => .stopped),
        enable := false } }) ∧
    (s.cu.loadAbandoned = false →
      exec (.setupReadAnswer .busError) s =
        .next (t.enterFaulted .setupReadError (s.cu.setupAddr.setWidth 16)) ∧
      (∀ d off, setupFailure d = some off → exec (.setupReadAnswer (.okay d)) s =
        .next (t.enterFaulted .setupInvalid (s.cu.setupAddr.setWidth 16 + BitVec.ofNat 16 off))) ∧
      ∀ d, setupFailure d = none → ∃ u : State, exec (.setupReadAnswer (.okay d)) s = .next u.writeStatus ∧
        u = { t with
          cu := { s.cu with state := .running }, rings := u.rings, banks := u.banks, sched := u.sched,
          fu := { s.fu with lastFetched := 3, statusAddr := dwordAt d 48 },
          cw := { s.cw with
            base := dwordAt d 0, size := 2 ^ (byteAt d 8).toNat, tail := 0, head := 0, phase := true,
            pointer := .bs 0 } } ∧
        (∀ n : Ring, u.ring n = if byteAt d (12 + n.val) = 0 then
            { s.ring n with state := .disabled, base := 0, size := 0, tail := 0, consumed := 0, outstanding := 0 }
          else { s.ring n with
            state := .idle, base := dwordAt d (16 + 8 * n.val), size := 2 ^ (byteAt d (12 + n.val)).toNat,
            tail := 0, consumed := 0, outstanding := 0 }) ∧
        (∀ b, u.bank b = { s.bank b with lastAdmitted := 3 }) ∧
        ∀ e, u.entry e = if (s.entry e).state = .armed ∨ (s.entry e).state = .outstanding then
            { s.entry e with nextExpiry := s.now + BitVec.ofNat 32 ((s.entry e).periodMs.toNat * 1000) }
          else s.entry e)

/-- 10:R154. The checks of the setup block in their order, with the offset of the first that fails. A block that
fails a check is the fatal fault SETUP_INVALID with the address of the failing field. -/
def Obligations.SetupBlockChecksInOrder : Prop :=
  (∀ d : Bytes,
      let sized (i : Nat) := 4 ≤ (byteAt d i).toNat ∧ (byteAt d i).toNat ≤ 12
      let c1 := ¬ sized 8
      let c2 := (dwordAt d 0).toNat % 32 ≠ 0
      let c3 (n : Nat) := byteAt d (12 + n) ≠ 0 ∧ ¬ sized (12 + n)
      let c4 := byteAt d 12 = 0 ∧ byteAt d 13 = 0 ∧ byteAt d 14 = 0 ∧ byteAt d 15 = 0
      let c5 (n : Nat) := sized (12 + n) ∧ (dwordAt d (16 + 8 * n)).toNat % 64 ≠ 0
      let c6 := (dwordAt d 48).toNat % 16 ≠ 0
      setupFailure d =
        if c1 then some 8 else if c2 then some 0
        else if c3 0 then some 12 else if c3 1 then some 13 else if c3 2 then some 14 else if c3 3 then some 15
        else if c4 then some 12
        else if c5 0 then some 16 else if c5 1 then some 24 else if c5 2 then some 32 else if c5 3 then some 40
        else if c6 then some 48 else none) ∧
  (∀ (s : State) (p : Addr) (d : Bytes) (off : Nat), s.resetAsserted = false → s.cu.state = .loading →
      s.cu.loadAbandoned = false → s.hp.setupRead = some p → setupFailure d = some off →
      exec (.setupReadAnswer (.okay d)) s =
        .next ({ s with hp := { s.hp with setupRead := none } }.enterFaulted .setupInvalid
          (s.cu.setupAddr.setWidth 16 + BitVec.ofNat 16 off)))

/-- 10 sections 10.4, 10:R161: a fatal fault latches FAULT_INFO and discards the work in progress: the part of
every block. A supply-low notice in flight takes effect before the fault claim (05 section 5.6, log 6). -/
def Obligations.FatalFaultDiscardsWork : Prop :=
  ∀ (s : State) (code : FaultCode) (addr : BitVec 16),
    let t := s.enterFaulted code addr
    t.cu = { s.cu with state := .faulted, faultCode := code, faultAddr := addr, subsequent := 0 } ∧
    t.eu = { s.eu with cause := s.eu.cause ||| 256 } ∧
    t.tb = s.tb ∧ t.hp = s.hp ∧ t.avdd = s.avdd ∧
    (∀ b, t.cell b = { s.cell b with
      state := .stopped, mux := .none, gateTimer := 0, refCounter := 0, sensorCounter := 0 }) ∧
    (∀ b, t.bank b = { s.bank b with queue := [], seq := .idle, context := none }) ∧
    (∀ b r, t.refs[b].noticeDue = false ∧
      let e := if s.refs[b].noticeDue then (s.ref b r).supplyLow else s.ref b r
      t.ref b r = match e.state with
        | .empty => e
        | .converting => { e with state := .empty, revokePending := false, supplyRevoke := false }
        | .valid => { e with leased := false }
        | .stale => e
        | .revoked => { e with state := .empty, leased := false }) ∧
    t.sm = { s.sm with state := .off, settleTimer := 0, reading := none, holders := .replicate 4 none } ∧
    (∀ n, t.ring n = { s.ring n with
      staging := none, outstanding := 0,
      state := match (s.ring n).state with
        | .disabled => .disabled
        | .error => .error
        | _ => .idle }) ∧
    t.fu = { s.fu with posting := [] } ∧ t.cw = { s.cw with grant := .none, granted := none } ∧
    ∀ e, t.entry e = if (s.entry e).state = .free then s.entry e else
      { s.entry e with state := .armed, held := none, phase := .requested, ending := .normal }

/-- 10:R156. The setup address is written in OFF and STOPPED, refused with HOST_ERROR in LOADING, RUNNING,
STOPPING and FAULTED, ignored in RESETTING; reads return it in every state. -/
def Obligations.SetupAddressByControllerState : Prop :=
  ∀ (v : BitVec 32) (s : State), s.resetAsserted = false →
    (s.cu.state = .off ∨ s.cu.state = .stopped →
      exec (.setupAddrLo v) s = .next { s with cu := { s.cu with
        setupAddr := s.cu.setupAddr.extractLsb' 32 32 ++ v } } ∧
      exec (.setupAddrHi v) s = .next { s with cu := { s.cu with
        setupAddr := v ++ s.cu.setupAddr.extractLsb' 0 32 } }) ∧
    (s.cu.state = .loading ∨ s.cu.state = .running ∨ s.cu.state = .stopping ∨ s.cu.state = .faulted →
      exec (.setupAddrLo v) s = .next { s with eu := { s.eu with cause := s.eu.cause ||| 32 } } ∧
      exec (.setupAddrHi v) s = .next { s with eu := { s.eu with cause := s.eu.cause ||| 32 } }) ∧
    (s.cu.state = .resetting →
      exec (.setupAddrLo v) s = .next s ∧ exec (.setupAddrHi v) s = .next s) ∧
    s.readAccess 0x10 ++ s.readAccess 0x0C = s.cu.setupAddr

/-! ### Events and the register window (chapters 11 and 12) -/

/-- 11:R165, 11:R166. EVENT_CAUSE clears the flags written 1; EVENT_MASK is replaced; both are ignored in
RESETTING and read back whole. 11:R167. The line is low exactly when some flag is set whose mask bit is set. 11
section 11.1: a flag stays set until the host clears it or a reset is taken: every other well-formed command
leaves every flag that is set, set. -/
def Obligations.EventFlagsAndLine : Prop :=
  (∀ (v : BitVec 32) (s : State), s.resetAsserted = false →
      (s.cu.state ≠ .resetting →
        exec (.eventCause v) s = .next { s with eu := { s.eu with
          cause := s.eu.cause &&& ~~~(v.extractLsb' 0 9) } } ∧
        exec (.eventMask v) s = .next { s with eu := { s.eu with mask := v.extractLsb' 0 9 } }) ∧
      (s.cu.state = .resetting → exec (.eventCause v) s = .next s ∧ exec (.eventMask v) s = .next s) ∧
      s.readAccess 0x1C = s.eu.cause.setWidth 32 ∧ s.readAccess 0x20 = s.eu.mask.setWidth 32) ∧
  (∀ s : State, s.evtN = false ↔ ∃ i, i < 9 ∧ s.eu.cause.getLsbD i = true ∧ s.eu.mask.getLsbD i = true) ∧
  (∀ (c : Instr) (s t : State) (i : Nat), wellFormed c = true → exec c s = .next t →
      (∀ v, c ≠ .eventCause v) → (∀ on, c ≠ .softReset on) → c ≠ .softResetComplete → c ≠ .resetNAsserted →
      s.eu.cause.getLsbD i = true → t.eu.cause.getLsbD i = true)

/-- 12 section 12.2: an access that the port's decoding ignores changes nothing; one it does not ignore is that
register's write (log 17), with bits 1 and 0 of the offset not decoded. 12 sections 12.1 to 12.3: what every
word reads. 07 section 7.4.7 and 10 section 10.1: the codes of the controller, ring, sequencer and monitor states
and of the faults. -/
def Obligations.RegisterWindowAccesses : Prop :=
  (∀ (o : BitVec 6) (lanes : BitVec 4) (v : BitVec 32) (s : State), s.resetAsserted = false →
      (lanes ≠ 15 → exec (.registerWriteIgnored o lanes v) s = .next s) ∧
      (o.toNat / 4 = 0 ∨ o.toNat / 4 = 2 ∨ 10 ≤ o.toNat / 4 →
        exec (.registerWriteIgnored o lanes v) s = .next s) ∧
      (o.toNat / 4 = 1 → exec (.registerWriteIgnored o 15 v) s =
        if v.getLsbD 1 then exec (.softReset (v.getLsbD 0)) s else exec (.enable (v.getLsbD 0)) s) ∧
      (o.toNat / 4 = 3 → exec (.registerWriteIgnored o 15 v) s = exec (.setupAddrLo v) s) ∧
      (o.toNat / 4 = 4 → exec (.registerWriteIgnored o 15 v) s = exec (.setupAddrHi v) s) ∧
      (o.toNat / 4 = 7 → exec (.registerWriteIgnored o 15 v) s = exec (.eventCause v) s) ∧
      (o.toNat / 4 = 8 → exec (.registerWriteIgnored o 15 v) s = exec (.eventMask v) s) ∧
      (o.toNat / 4 = 6 → exec (.registerWriteIgnored o 15 v) s = exec (.cqHead v) s) ∧
      (o.toNat / 4 = 5 → exec (.registerWriteIgnored o 15 v) s = exec (.submit (v.extractLsb' 0 18 |>.setWidth 32)) s) ∧
      (o.toNat / 4 = 9 → exec (.registerWriteIgnored o 15 v) s = exec (.bankAbort v) s)) ∧
  (∀ (o : BitVec 6) (s : State),
      (o.toNat / 4 = 0 → s.readAccess o = 0x4E520464) ∧
      (o.toNat / 4 = 1 → s.readAccess o = if s.cu.enable then 1 else 0) ∧
      (o.toNat / 4 = 2 →
        (s.readAccess o).extractLsb' 0 3 = s.cu.state.code ∧
        (∀ n : Ring, ((s.readAccess o).extractLsb' (3 + 3 * n.val) 3).toNat = (s.ring n).state.code.toNat) ∧
        (∀ b : Bank, (s.readAccess o).extractLsb' (15 + 3 * b.val) 3 = (s.bank b).seq.code) ∧
        (s.readAccess o).extractLsb' 27 2 = s.sm.state.code ∧ (s.readAccess o).extractLsb' 29 3 = 0) ∧
      (o.toNat / 4 = 3 → s.readAccess o = s.cu.setupAddr.extractLsb' 0 32) ∧
      (o.toNat / 4 = 4 → s.readAccess o = s.cu.setupAddr.extractLsb' 32 32) ∧
      (o.toNat / 4 = 5 ∨ 10 ≤ o.toNat / 4 → s.readAccess o = 0) ∧
      (o.toNat / 4 = 6 → s.readAccess o = s.cw.head.setWidth 32) ∧
      (o.toNat / 4 = 7 → s.readAccess o = s.eu.cause.setWidth 32) ∧
      (o.toNat / 4 = 8 → s.readAccess o = s.eu.mask.setWidth 32) ∧
      (o.toNat / 4 = 9 → (s.readAccess o).extractLsb' 0 16 = s.cu.faultAddr ∧
        (s.readAccess o).extractLsb' 16 4 = BitVec.ofNat 4 s.cu.subsequent ∧
        (s.readAccess o).extractLsb' 20 3 = s.cu.faultCode.code ∧ (s.readAccess o).extractLsb' 23 9 = 0)) ∧
  ([ControllerState.off, .loading, .running, .stopping, .stopped, .faulted, .resetting].map ControllerState.code =
      [0, 1, 2, 3, 4, 5, 6]) ∧
  ([RingState.disabled, .idle, .fetching, .staged, .blocked, .posting, .fenced, .error].map RingState.code =
      [0, 1, 2, 3, 4, 5, 6, 7]) ∧
  ([SeqState.idle, .starting, .reference, .measuring, .posting].map SeqState.code = [0, 1, 2, 3, 4]) ∧
  ([MonitorState.off, .settling, .watching].map MonitorState.code = [0, 1, 2]) ∧
  ([FaultCode.none, .setupReadError, .setupInvalid, .statusWriteError, .cqWriteError].map FaultCode.code =
      [0, 1, 2, 3, 4])

/-! ### The whole machine -/

/-- 10:R161. "FAULTED is left only by R162 or a hardware reset", and the first fault stays latched. -/
def Obligations.FaultedLeftOnlyByReset : Prop :=
  ∀ (c : Instr) (s t : State), wellFormed c = true → s.cu.state = .faulted → exec c s = .next t →
    (∀ on, c ≠ .softReset on) → c ≠ .resetNAsserted →
    t.cu.state = .faulted ∧ t.cu.faultCode = s.cu.faultCode ∧ t.cu.faultAddr = s.cu.faultAddr

/-- 02 section 2.4: an entry's generation changes by a publication of its own bank's reference window, to the
next one, and by nothing else but a reset. -/
def Obligations.GenerationChangesAtPublish : Prop :=
  ∀ (c : Instr) (s t : State) (b : Bank) (r : Ref), wellFormed c = true → exec c s = .next t →
    (∀ on, c ≠ .softReset on) → c ≠ .softResetComplete → c ≠ .resetNAsserted →
    (t.ref b r).generation = (s.ref b r).generation ∨
    (c = .refDone b ∧ (s.bank b).seq = .reference ∧ r = descRef (s.headDesc b) ∧
      (t.ref b r).generation = nextGeneration (s.ref b r).generation)

/-- 03:R43, 03:R50. The bank queues and sequencers stay sound, at every step from every state that is. -/
def Obligations.StepKeepsBanksSound : Prop :=
  ∀ s t : State, s.BanksSound → step s = .next t → t.BanksSound

/-- 02:R23, 02:R28. A CONVERTING entry belongs to its bank's sequencer in REFERENCE and a leased one to it in
MEASURING, with the marks of 02:R23, at every step from every state where that holds. -/
def Obligations.StepKeepsLeasesSound : Prop :=
  ∀ s t : State, s.LeasesSound → step s = .next t → t.LeasesSound

/-- 05:R84. "The monitor is OFF exactly when no bank sequencer holds or waits for a hold", at every step from
every state where the hold set is sound. -/
def Obligations.StepKeepsHoldsSound : Prop :=
  ∀ s t : State, s.HoldsSound → step s = .next t → t.HoldsSound

/-- 06:R95, 06:R107. "(tail − consumed) mod 65,536 never exceeds the ring size", with the rings, the posting
list and the grant sound, at every step from every state where that holds. -/
def Obligations.StepKeepsRingsSound : Prop :=
  ∀ s t : State, s.RingsSound → step s = .next t → t.RingsSound

/-- 08:R124, 08:R127. "(CQ tail − CQ head) mod 65,536 never exceeds the completion ring size", and the phase
field is the phase of the tail, at every step from every state where that holds. -/
def Obligations.StepKeepsCompletionSound : Prop :=
  ∀ s t : State, s.CompletionSound → step s = .next t → t.CompletionSound

/-- The machine after reset satisfies the five invariants. -/
def Obligations.ResetStateIsSound : Prop :=
  State.reset.BanksSound ∧ State.reset.LeasesSound ∧ State.reset.HoldsSound ∧ State.reset.RingsSound ∧
    State.reset.CompletionSound
end

