-- ==== Sys2Proof/Laws/State.lean ====
section
/-! SUPPORT. The small lemmas of the state: one per field per named update, and what each getter reads after each
setter, so that no proof unfolds a record update. -/
namespace Sys2Proof.Machine

open Sys2Proof

/-! Numbered groups -/

@[simp] theorem mapAll_eq_map {α β : Type} {n : Nat} (f : α → β) (v : Vector α n) : mapAll f v = v.map f := by
  apply Vector.ext
  intro i h
  simp [mapAll]

@[simp] theorem allPass_eq_true {α : Type} {n : Nat} (p : α → Bool) (v : Vector α n) :
    allPass p v = true ↔ ∀ i : Fin n, p v[i] = true := by
  simp [allPass]

/-! `setRing` -/

@[simp] theorem State.setRing_cu (s : State) (n : Ring) (x : SubRing) : (s.setRing n x).cu = s.cu := rfl
@[simp] theorem State.setRing_fu (s : State) (n : Ring) (x : SubRing) : (s.setRing n x).fu = s.fu := rfl
@[simp] theorem State.setRing_banks (s : State) (n : Ring) (x : SubRing) : (s.setRing n x).banks = s.banks := rfl
@[simp] theorem State.setRing_cells (s : State) (n : Ring) (x : SubRing) : (s.setRing n x).cells = s.cells := rfl
@[simp] theorem State.setRing_refs (s : State) (n : Ring) (x : SubRing) : (s.setRing n x).refs = s.refs := rfl
@[simp] theorem State.setRing_sm (s : State) (n : Ring) (x : SubRing) : (s.setRing n x).sm = s.sm := rfl
@[simp] theorem State.setRing_sched (s : State) (n : Ring) (x : SubRing) : (s.setRing n x).sched = s.sched := rfl
@[simp] theorem State.setRing_cw (s : State) (n : Ring) (x : SubRing) : (s.setRing n x).cw = s.cw := rfl
@[simp] theorem State.setRing_eu (s : State) (n : Ring) (x : SubRing) : (s.setRing n x).eu = s.eu := rfl
@[simp] theorem State.setRing_tb (s : State) (n : Ring) (x : SubRing) : (s.setRing n x).tb = s.tb := rfl
@[simp] theorem State.setRing_hp (s : State) (n : Ring) (x : SubRing) : (s.setRing n x).hp = s.hp := rfl
@[simp] theorem State.setRing_avdd (s : State) (n : Ring) (x : SubRing) : (s.setRing n x).avdd = s.avdd := rfl
@[simp] theorem State.setRing_resetAsserted (s : State) (n : Ring) (x : SubRing) : (s.setRing n x).resetAsserted = s.resetAsserted := rfl
@[simp] theorem State.setRing_draws (s : State) (n : Ring) (x : SubRing) : (s.setRing n x).draws = s.draws := rfl
@[simp] theorem State.setRing_pending (s : State) (n : Ring) (x : SubRing) : (s.setRing n x).pending = s.pending := rfl
@[simp] theorem State.setRing_bank (s : State) (n : Ring) (x : SubRing) (i : Bank) :
     (s.setRing n x).bank i = s.bank i := rfl
@[simp] theorem State.setRing_cell (s : State) (n : Ring) (x : SubRing) (i : Bank) :
     (s.setRing n x).cell i = s.cell i := rfl
@[simp] theorem State.setRing_ref (s : State) (n : Ring) (x : SubRing) (i : Bank) (q : Ref) :
     (s.setRing n x).ref i q = s.ref i q := rfl
@[simp] theorem State.setRing_entry (s : State) (n : Ring) (x : SubRing) (i : Entry) :
     (s.setRing n x).entry i = s.entry i := rfl
@[simp] theorem State.setRing_holder (s : State) (n : Ring) (x : SubRing) (i : Bank) :
     (s.setRing n x).holder i = s.holder i := rfl
@[simp] theorem State.setRing_now (s : State) (n : Ring) (x : SubRing) : (s.setRing n x).now = s.now := rfl
@[simp] theorem State.setRing_working (s : State) (n : Ring) (x : SubRing) : (s.setRing n x).working = s.working := rfl
@[simp] theorem State.setRing_headDesc (s : State) (n : Ring) (x : SubRing) (i : Bank) :
     (s.setRing n x).headDesc i = s.headDesc i := rfl
@[simp] theorem State.setRing_headSource (s : State) (n : Ring) (x : SubRing) (i : Bank) :
     (s.setRing n x).headSource i = s.headSource i := rfl

/-! `setBank` -/

@[simp] theorem State.setBank_cu (s : State) (b : Bank) (x : BankSeq) : (s.setBank b x).cu = s.cu := rfl
@[simp] theorem State.setBank_rings (s : State) (b : Bank) (x : BankSeq) : (s.setBank b x).rings = s.rings := rfl
@[simp] theorem State.setBank_fu (s : State) (b : Bank) (x : BankSeq) : (s.setBank b x).fu = s.fu := rfl
@[simp] theorem State.setBank_cells (s : State) (b : Bank) (x : BankSeq) : (s.setBank b x).cells = s.cells := rfl
@[simp] theorem State.setBank_refs (s : State) (b : Bank) (x : BankSeq) : (s.setBank b x).refs = s.refs := rfl
@[simp] theorem State.setBank_sm (s : State) (b : Bank) (x : BankSeq) : (s.setBank b x).sm = s.sm := rfl
@[simp] theorem State.setBank_sched (s : State) (b : Bank) (x : BankSeq) : (s.setBank b x).sched = s.sched := rfl
@[simp] theorem State.setBank_cw (s : State) (b : Bank) (x : BankSeq) : (s.setBank b x).cw = s.cw := rfl
@[simp] theorem State.setBank_eu (s : State) (b : Bank) (x : BankSeq) : (s.setBank b x).eu = s.eu := rfl
@[simp] theorem State.setBank_tb (s : State) (b : Bank) (x : BankSeq) : (s.setBank b x).tb = s.tb := rfl
@[simp] theorem State.setBank_hp (s : State) (b : Bank) (x : BankSeq) : (s.setBank b x).hp = s.hp := rfl
@[simp] theorem State.setBank_avdd (s : State) (b : Bank) (x : BankSeq) : (s.setBank b x).avdd = s.avdd := rfl
@[simp] theorem State.setBank_resetAsserted (s : State) (b : Bank) (x : BankSeq) : (s.setBank b x).resetAsserted = s.resetAsserted := rfl
@[simp] theorem State.setBank_draws (s : State) (b : Bank) (x : BankSeq) : (s.setBank b x).draws = s.draws := rfl
@[simp] theorem State.setBank_pending (s : State) (b : Bank) (x : BankSeq) : (s.setBank b x).pending = s.pending := rfl
@[simp] theorem State.setBank_ring (s : State) (b : Bank) (x : BankSeq) (i : Ring) :
     (s.setBank b x).ring i = s.ring i := rfl
@[simp] theorem State.setBank_cell (s : State) (b : Bank) (x : BankSeq) (i : Bank) :
     (s.setBank b x).cell i = s.cell i := rfl
@[simp] theorem State.setBank_ref (s : State) (b : Bank) (x : BankSeq) (i : Bank) (q : Ref) :
     (s.setBank b x).ref i q = s.ref i q := rfl
@[simp] theorem State.setBank_entry (s : State) (b : Bank) (x : BankSeq) (i : Entry) :
     (s.setBank b x).entry i = s.entry i := rfl
@[simp] theorem State.setBank_holder (s : State) (b : Bank) (x : BankSeq) (i : Bank) :
     (s.setBank b x).holder i = s.holder i := rfl
@[simp] theorem State.setBank_now (s : State) (b : Bank) (x : BankSeq) : (s.setBank b x).now = s.now := rfl
@[simp] theorem State.setBank_working (s : State) (b : Bank) (x : BankSeq) : (s.setBank b x).working = s.working := rfl

/-! `setCell` -/

@[simp] theorem State.setCell_cu (s : State) (b : Bank) (x : Cell) : (s.setCell b x).cu = s.cu := rfl
@[simp] theorem State.setCell_rings (s : State) (b : Bank) (x : Cell) : (s.setCell b x).rings = s.rings := rfl
@[simp] theorem State.setCell_fu (s : State) (b : Bank) (x : Cell) : (s.setCell b x).fu = s.fu := rfl
@[simp] theorem State.setCell_banks (s : State) (b : Bank) (x : Cell) : (s.setCell b x).banks = s.banks := rfl
@[simp] theorem State.setCell_refs (s : State) (b : Bank) (x : Cell) : (s.setCell b x).refs = s.refs := rfl
@[simp] theorem State.setCell_sm (s : State) (b : Bank) (x : Cell) : (s.setCell b x).sm = s.sm := rfl
@[simp] theorem State.setCell_sched (s : State) (b : Bank) (x : Cell) : (s.setCell b x).sched = s.sched := rfl
@[simp] theorem State.setCell_cw (s : State) (b : Bank) (x : Cell) : (s.setCell b x).cw = s.cw := rfl
@[simp] theorem State.setCell_eu (s : State) (b : Bank) (x : Cell) : (s.setCell b x).eu = s.eu := rfl
@[simp] theorem State.setCell_tb (s : State) (b : Bank) (x : Cell) : (s.setCell b x).tb = s.tb := rfl
@[simp] theorem State.setCell_hp (s : State) (b : Bank) (x : Cell) : (s.setCell b x).hp = s.hp := rfl
@[simp] theorem State.setCell_avdd (s : State) (b : Bank) (x : Cell) : (s.setCell b x).avdd = s.avdd := rfl
@[simp] theorem State.setCell_resetAsserted (s : State) (b : Bank) (x : Cell) : (s.setCell b x).resetAsserted = s.resetAsserted := rfl
@[simp] theorem State.setCell_draws (s : State) (b : Bank) (x : Cell) : (s.setCell b x).draws = s.draws := rfl
@[simp] theorem State.setCell_pending (s : State) (b : Bank) (x : Cell) : (s.setCell b x).pending = s.pending := rfl
@[simp] theorem State.setCell_ring (s : State) (b : Bank) (x : Cell) (i : Ring) :
     (s.setCell b x).ring i = s.ring i := rfl
@[simp] theorem State.setCell_bank (s : State) (b : Bank) (x : Cell) (i : Bank) :
     (s.setCell b x).bank i = s.bank i := rfl
@[simp] theorem State.setCell_ref (s : State) (b : Bank) (x : Cell) (i : Bank) (q : Ref) :
     (s.setCell b x).ref i q = s.ref i q := rfl
@[simp] theorem State.setCell_entry (s : State) (b : Bank) (x : Cell) (i : Entry) :
     (s.setCell b x).entry i = s.entry i := rfl
@[simp] theorem State.setCell_holder (s : State) (b : Bank) (x : Cell) (i : Bank) :
     (s.setCell b x).holder i = s.holder i := rfl
@[simp] theorem State.setCell_now (s : State) (b : Bank) (x : Cell) : (s.setCell b x).now = s.now := rfl
@[simp] theorem State.setCell_working (s : State) (b : Bank) (x : Cell) : (s.setCell b x).working = s.working := rfl
@[simp] theorem State.setCell_headDesc (s : State) (b : Bank) (x : Cell) (i : Bank) :
     (s.setCell b x).headDesc i = s.headDesc i := rfl
@[simp] theorem State.setCell_headSource (s : State) (b : Bank) (x : Cell) (i : Bank) :
     (s.setCell b x).headSource i = s.headSource i := rfl

/-! `setRef` -/

@[simp] theorem State.setRef_cu (s : State) (b : Bank) (r : Ref) (x : RefEntry) : (s.setRef b r x).cu = s.cu := rfl
@[simp] theorem State.setRef_rings (s : State) (b : Bank) (r : Ref) (x : RefEntry) : (s.setRef b r x).rings = s.rings := rfl
@[simp] theorem State.setRef_fu (s : State) (b : Bank) (r : Ref) (x : RefEntry) : (s.setRef b r x).fu = s.fu := rfl
@[simp] theorem State.setRef_banks (s : State) (b : Bank) (r : Ref) (x : RefEntry) : (s.setRef b r x).banks = s.banks := rfl
@[simp] theorem State.setRef_cells (s : State) (b : Bank) (r : Ref) (x : RefEntry) : (s.setRef b r x).cells = s.cells := rfl
@[simp] theorem State.setRef_sm (s : State) (b : Bank) (r : Ref) (x : RefEntry) : (s.setRef b r x).sm = s.sm := rfl
@[simp] theorem State.setRef_sched (s : State) (b : Bank) (r : Ref) (x : RefEntry) : (s.setRef b r x).sched = s.sched := rfl
@[simp] theorem State.setRef_cw (s : State) (b : Bank) (r : Ref) (x : RefEntry) : (s.setRef b r x).cw = s.cw := rfl
@[simp] theorem State.setRef_eu (s : State) (b : Bank) (r : Ref) (x : RefEntry) : (s.setRef b r x).eu = s.eu := rfl
@[simp] theorem State.setRef_tb (s : State) (b : Bank) (r : Ref) (x : RefEntry) : (s.setRef b r x).tb = s.tb := rfl
@[simp] theorem State.setRef_hp (s : State) (b : Bank) (r : Ref) (x : RefEntry) : (s.setRef b r x).hp = s.hp := rfl
@[simp] theorem State.setRef_avdd (s : State) (b : Bank) (r : Ref) (x : RefEntry) : (s.setRef b r x).avdd = s.avdd := rfl
@[simp] theorem State.setRef_resetAsserted (s : State) (b : Bank) (r : Ref) (x : RefEntry) : (s.setRef b r x).resetAsserted = s.resetAsserted := rfl
@[simp] theorem State.setRef_draws (s : State) (b : Bank) (r : Ref) (x : RefEntry) : (s.setRef b r x).draws = s.draws := rfl
@[simp] theorem State.setRef_pending (s : State) (b : Bank) (r : Ref) (x : RefEntry) : (s.setRef b r x).pending = s.pending := rfl
@[simp] theorem State.setRef_ring (s : State) (b : Bank) (r : Ref) (x : RefEntry) (i : Ring) :
     (s.setRef b r x).ring i = s.ring i := rfl
@[simp] theorem State.setRef_bank (s : State) (b : Bank) (r : Ref) (x : RefEntry) (i : Bank) :
     (s.setRef b r x).bank i = s.bank i := rfl
@[simp] theorem State.setRef_cell (s : State) (b : Bank) (r : Ref) (x : RefEntry) (i : Bank) :
     (s.setRef b r x).cell i = s.cell i := rfl
@[simp] theorem State.setRef_entry (s : State) (b : Bank) (r : Ref) (x : RefEntry) (i : Entry) :
     (s.setRef b r x).entry i = s.entry i := rfl
@[simp] theorem State.setRef_holder (s : State) (b : Bank) (r : Ref) (x : RefEntry) (i : Bank) :
     (s.setRef b r x).holder i = s.holder i := rfl
@[simp] theorem State.setRef_now (s : State) (b : Bank) (r : Ref) (x : RefEntry) : (s.setRef b r x).now = s.now := rfl
@[simp] theorem State.setRef_working (s : State) (b : Bank) (r : Ref) (x : RefEntry) : (s.setRef b r x).working = s.working := rfl
@[simp] theorem State.setRef_headDesc (s : State) (b : Bank) (r : Ref) (x : RefEntry) (i : Bank) :
     (s.setRef b r x).headDesc i = s.headDesc i := rfl
@[simp] theorem State.setRef_headSource (s : State) (b : Bank) (r : Ref) (x : RefEntry) (i : Bank) :
     (s.setRef b r x).headSource i = s.headSource i := rfl

/-! `holdNotice`, `deliverNotice` -/

@[simp] theorem State.holdNotice_cu (s : State) (b : Bank) : (s.holdNotice b).cu = s.cu := rfl
@[simp] theorem State.holdNotice_rings (s : State) (b : Bank) : (s.holdNotice b).rings = s.rings := rfl
@[simp] theorem State.holdNotice_fu (s : State) (b : Bank) : (s.holdNotice b).fu = s.fu := rfl
@[simp] theorem State.holdNotice_banks (s : State) (b : Bank) : (s.holdNotice b).banks = s.banks := rfl
@[simp] theorem State.holdNotice_cells (s : State) (b : Bank) : (s.holdNotice b).cells = s.cells := rfl
@[simp] theorem State.holdNotice_sm (s : State) (b : Bank) : (s.holdNotice b).sm = s.sm := rfl
@[simp] theorem State.holdNotice_sched (s : State) (b : Bank) : (s.holdNotice b).sched = s.sched := rfl
@[simp] theorem State.holdNotice_cw (s : State) (b : Bank) : (s.holdNotice b).cw = s.cw := rfl
@[simp] theorem State.holdNotice_eu (s : State) (b : Bank) : (s.holdNotice b).eu = s.eu := rfl
@[simp] theorem State.holdNotice_tb (s : State) (b : Bank) : (s.holdNotice b).tb = s.tb := rfl
@[simp] theorem State.holdNotice_hp (s : State) (b : Bank) : (s.holdNotice b).hp = s.hp := rfl
@[simp] theorem State.holdNotice_avdd (s : State) (b : Bank) : (s.holdNotice b).avdd = s.avdd := rfl
@[simp] theorem State.holdNotice_resetAsserted (s : State) (b : Bank) : (s.holdNotice b).resetAsserted = s.resetAsserted := rfl
@[simp] theorem State.holdNotice_draws (s : State) (b : Bank) : (s.holdNotice b).draws = s.draws := rfl
@[simp] theorem State.holdNotice_pending (s : State) (b : Bank) : (s.holdNotice b).pending = s.pending := rfl
@[simp] theorem State.holdNotice_ring (s : State) (b : Bank) (i : Ring) :
    (s.holdNotice b).ring i = s.ring i := rfl
@[simp] theorem State.holdNotice_bank (s : State) (b : Bank) (i : Bank) :
    (s.holdNotice b).bank i = s.bank i := rfl
@[simp] theorem State.holdNotice_cell (s : State) (b : Bank) (i : Bank) :
    (s.holdNotice b).cell i = s.cell i := rfl
@[simp] theorem State.holdNotice_entry (s : State) (b : Bank) (i : Entry) :
    (s.holdNotice b).entry i = s.entry i := rfl
@[simp] theorem State.holdNotice_holder (s : State) (b : Bank) (i : Bank) :
    (s.holdNotice b).holder i = s.holder i := rfl
@[simp] theorem State.holdNotice_headDesc (s : State) (b : Bank) (i : Bank) :
    (s.holdNotice b).headDesc i = s.headDesc i := rfl
@[simp] theorem State.holdNotice_headSource (s : State) (b : Bank) (i : Bank) :
    (s.holdNotice b).headSource i = s.headSource i := rfl
@[simp] theorem State.holdNotice_now (s : State) (b : Bank) : (s.holdNotice b).now = s.now := rfl
@[simp] theorem State.holdNotice_working (s : State) (b : Bank) : (s.holdNotice b).working = s.working := rfl

@[simp] theorem State.deliverNotice_cu (s : State) (b : Bank) : (s.deliverNotice b).cu = s.cu := rfl
@[simp] theorem State.deliverNotice_rings (s : State) (b : Bank) : (s.deliverNotice b).rings = s.rings := rfl
@[simp] theorem State.deliverNotice_fu (s : State) (b : Bank) : (s.deliverNotice b).fu = s.fu := rfl
@[simp] theorem State.deliverNotice_banks (s : State) (b : Bank) : (s.deliverNotice b).banks = s.banks := rfl
@[simp] theorem State.deliverNotice_cells (s : State) (b : Bank) : (s.deliverNotice b).cells = s.cells := rfl
@[simp] theorem State.deliverNotice_sm (s : State) (b : Bank) : (s.deliverNotice b).sm = s.sm := rfl
@[simp] theorem State.deliverNotice_sched (s : State) (b : Bank) : (s.deliverNotice b).sched = s.sched := rfl
@[simp] theorem State.deliverNotice_cw (s : State) (b : Bank) : (s.deliverNotice b).cw = s.cw := rfl
@[simp] theorem State.deliverNotice_eu (s : State) (b : Bank) : (s.deliverNotice b).eu = s.eu := rfl
@[simp] theorem State.deliverNotice_tb (s : State) (b : Bank) : (s.deliverNotice b).tb = s.tb := rfl
@[simp] theorem State.deliverNotice_hp (s : State) (b : Bank) : (s.deliverNotice b).hp = s.hp := rfl
@[simp] theorem State.deliverNotice_avdd (s : State) (b : Bank) : (s.deliverNotice b).avdd = s.avdd := rfl
@[simp] theorem State.deliverNotice_resetAsserted (s : State) (b : Bank) : (s.deliverNotice b).resetAsserted = s.resetAsserted := rfl
@[simp] theorem State.deliverNotice_draws (s : State) (b : Bank) : (s.deliverNotice b).draws = s.draws := rfl
@[simp] theorem State.deliverNotice_pending (s : State) (b : Bank) : (s.deliverNotice b).pending = s.pending := rfl
@[simp] theorem State.deliverNotice_ring (s : State) (b : Bank) (i : Ring) :
    (s.deliverNotice b).ring i = s.ring i := rfl
@[simp] theorem State.deliverNotice_bank (s : State) (b : Bank) (i : Bank) :
    (s.deliverNotice b).bank i = s.bank i := rfl
@[simp] theorem State.deliverNotice_cell (s : State) (b : Bank) (i : Bank) :
    (s.deliverNotice b).cell i = s.cell i := rfl
@[simp] theorem State.deliverNotice_entry (s : State) (b : Bank) (i : Entry) :
    (s.deliverNotice b).entry i = s.entry i := rfl
@[simp] theorem State.deliverNotice_holder (s : State) (b : Bank) (i : Bank) :
    (s.deliverNotice b).holder i = s.holder i := rfl
@[simp] theorem State.deliverNotice_headDesc (s : State) (b : Bank) (i : Bank) :
    (s.deliverNotice b).headDesc i = s.headDesc i := rfl
@[simp] theorem State.deliverNotice_headSource (s : State) (b : Bank) (i : Bank) :
    (s.deliverNotice b).headSource i = s.headSource i := rfl
@[simp] theorem State.deliverNotice_now (s : State) (b : Bank) : (s.deliverNotice b).now = s.now := rfl
@[simp] theorem State.deliverNotice_working (s : State) (b : Bank) : (s.deliverNotice b).working = s.working := rfl

/-! `setEntry` -/

@[simp] theorem State.setEntry_cu (s : State) (e : Entry) (x : SchedEntry) : (s.setEntry e x).cu = s.cu := rfl
@[simp] theorem State.setEntry_rings (s : State) (e : Entry) (x : SchedEntry) : (s.setEntry e x).rings = s.rings := rfl
@[simp] theorem State.setEntry_fu (s : State) (e : Entry) (x : SchedEntry) : (s.setEntry e x).fu = s.fu := rfl
@[simp] theorem State.setEntry_banks (s : State) (e : Entry) (x : SchedEntry) : (s.setEntry e x).banks = s.banks := rfl
@[simp] theorem State.setEntry_cells (s : State) (e : Entry) (x : SchedEntry) : (s.setEntry e x).cells = s.cells := rfl
@[simp] theorem State.setEntry_refs (s : State) (e : Entry) (x : SchedEntry) : (s.setEntry e x).refs = s.refs := rfl
@[simp] theorem State.setEntry_sm (s : State) (e : Entry) (x : SchedEntry) : (s.setEntry e x).sm = s.sm := rfl
@[simp] theorem State.setEntry_cw (s : State) (e : Entry) (x : SchedEntry) : (s.setEntry e x).cw = s.cw := rfl
@[simp] theorem State.setEntry_eu (s : State) (e : Entry) (x : SchedEntry) : (s.setEntry e x).eu = s.eu := rfl
@[simp] theorem State.setEntry_tb (s : State) (e : Entry) (x : SchedEntry) : (s.setEntry e x).tb = s.tb := rfl
@[simp] theorem State.setEntry_hp (s : State) (e : Entry) (x : SchedEntry) : (s.setEntry e x).hp = s.hp := rfl
@[simp] theorem State.setEntry_avdd (s : State) (e : Entry) (x : SchedEntry) : (s.setEntry e x).avdd = s.avdd := rfl
@[simp] theorem State.setEntry_resetAsserted (s : State) (e : Entry) (x : SchedEntry) : (s.setEntry e x).resetAsserted = s.resetAsserted := rfl
@[simp] theorem State.setEntry_draws (s : State) (e : Entry) (x : SchedEntry) : (s.setEntry e x).draws = s.draws := rfl
@[simp] theorem State.setEntry_pending (s : State) (e : Entry) (x : SchedEntry) : (s.setEntry e x).pending = s.pending := rfl
@[simp] theorem State.setEntry_ring (s : State) (e : Entry) (x : SchedEntry) (i : Ring) :
     (s.setEntry e x).ring i = s.ring i := rfl
@[simp] theorem State.setEntry_bank (s : State) (e : Entry) (x : SchedEntry) (i : Bank) :
     (s.setEntry e x).bank i = s.bank i := rfl
@[simp] theorem State.setEntry_cell (s : State) (e : Entry) (x : SchedEntry) (i : Bank) :
     (s.setEntry e x).cell i = s.cell i := rfl
@[simp] theorem State.setEntry_ref (s : State) (e : Entry) (x : SchedEntry) (i : Bank) (q : Ref) :
     (s.setEntry e x).ref i q = s.ref i q := rfl
@[simp] theorem State.setEntry_holder (s : State) (e : Entry) (x : SchedEntry) (i : Bank) :
     (s.setEntry e x).holder i = s.holder i := rfl
@[simp] theorem State.setEntry_now (s : State) (e : Entry) (x : SchedEntry) : (s.setEntry e x).now = s.now := rfl
@[simp] theorem State.setEntry_working (s : State) (e : Entry) (x : SchedEntry) : (s.setEntry e x).working = s.working := rfl
@[simp] theorem State.setEntry_headDesc (s : State) (e : Entry) (x : SchedEntry) (i : Bank) :
     (s.setEntry e x).headDesc i = s.headDesc i := rfl
@[simp] theorem State.setEntry_headSource (s : State) (e : Entry) (x : SchedEntry) (i : Bank) :
     (s.setEntry e x).headSource i = s.headSource i := rfl

/-! `setHolder` -/

@[simp] theorem State.setHolder_cu (s : State) (b : Bank) (x : Option Holder) : (s.setHolder b x).cu = s.cu := rfl
@[simp] theorem State.setHolder_rings (s : State) (b : Bank) (x : Option Holder) : (s.setHolder b x).rings = s.rings := rfl
@[simp] theorem State.setHolder_fu (s : State) (b : Bank) (x : Option Holder) : (s.setHolder b x).fu = s.fu := rfl
@[simp] theorem State.setHolder_banks (s : State) (b : Bank) (x : Option Holder) : (s.setHolder b x).banks = s.banks := rfl
@[simp] theorem State.setHolder_cells (s : State) (b : Bank) (x : Option Holder) : (s.setHolder b x).cells = s.cells := rfl
@[simp] theorem State.setHolder_refs (s : State) (b : Bank) (x : Option Holder) : (s.setHolder b x).refs = s.refs := rfl
@[simp] theorem State.setHolder_sched (s : State) (b : Bank) (x : Option Holder) : (s.setHolder b x).sched = s.sched := rfl
@[simp] theorem State.setHolder_cw (s : State) (b : Bank) (x : Option Holder) : (s.setHolder b x).cw = s.cw := rfl
@[simp] theorem State.setHolder_eu (s : State) (b : Bank) (x : Option Holder) : (s.setHolder b x).eu = s.eu := rfl
@[simp] theorem State.setHolder_tb (s : State) (b : Bank) (x : Option Holder) : (s.setHolder b x).tb = s.tb := rfl
@[simp] theorem State.setHolder_hp (s : State) (b : Bank) (x : Option Holder) : (s.setHolder b x).hp = s.hp := rfl
@[simp] theorem State.setHolder_avdd (s : State) (b : Bank) (x : Option Holder) : (s.setHolder b x).avdd = s.avdd := rfl
@[simp] theorem State.setHolder_resetAsserted (s : State) (b : Bank) (x : Option Holder) : (s.setHolder b x).resetAsserted = s.resetAsserted := rfl
@[simp] theorem State.setHolder_draws (s : State) (b : Bank) (x : Option Holder) : (s.setHolder b x).draws = s.draws := rfl
@[simp] theorem State.setHolder_pending (s : State) (b : Bank) (x : Option Holder) : (s.setHolder b x).pending = s.pending := rfl
@[simp] theorem State.setHolder_ring (s : State) (b : Bank) (x : Option Holder) (i : Ring) :
     (s.setHolder b x).ring i = s.ring i := rfl
@[simp] theorem State.setHolder_bank (s : State) (b : Bank) (x : Option Holder) (i : Bank) :
     (s.setHolder b x).bank i = s.bank i := rfl
@[simp] theorem State.setHolder_cell (s : State) (b : Bank) (x : Option Holder) (i : Bank) :
     (s.setHolder b x).cell i = s.cell i := rfl
@[simp] theorem State.setHolder_ref (s : State) (b : Bank) (x : Option Holder) (i : Bank) (q : Ref) :
     (s.setHolder b x).ref i q = s.ref i q := rfl
@[simp] theorem State.setHolder_entry (s : State) (b : Bank) (x : Option Holder) (i : Entry) :
     (s.setHolder b x).entry i = s.entry i := rfl
@[simp] theorem State.setHolder_now (s : State) (b : Bank) (x : Option Holder) : (s.setHolder b x).now = s.now := rfl
@[simp] theorem State.setHolder_working (s : State) (b : Bank) (x : Option Holder) : (s.setHolder b x).working = s.working := rfl
@[simp] theorem State.setHolder_headDesc (s : State) (b : Bank) (x : Option Holder) (i : Bank) :
     (s.setHolder b x).headDesc i = s.headDesc i := rfl
@[simp] theorem State.setHolder_headSource (s : State) (b : Bank) (x : Option Holder) (i : Bank) :
     (s.setHolder b x).headSource i = s.headSource i := rfl

/-! `setControl` -/

@[simp] theorem State.setControl_rings (s : State) (c : ControllerState) : (s.setControl c).rings = s.rings := rfl
@[simp] theorem State.setControl_fu (s : State) (c : ControllerState) : (s.setControl c).fu = s.fu := rfl
@[simp] theorem State.setControl_banks (s : State) (c : ControllerState) : (s.setControl c).banks = s.banks := rfl
@[simp] theorem State.setControl_cells (s : State) (c : ControllerState) : (s.setControl c).cells = s.cells := rfl
@[simp] theorem State.setControl_refs (s : State) (c : ControllerState) : (s.setControl c).refs = s.refs := rfl
@[simp] theorem State.setControl_sm (s : State) (c : ControllerState) : (s.setControl c).sm = s.sm := rfl
@[simp] theorem State.setControl_sched (s : State) (c : ControllerState) : (s.setControl c).sched = s.sched := rfl
@[simp] theorem State.setControl_cw (s : State) (c : ControllerState) : (s.setControl c).cw = s.cw := rfl
@[simp] theorem State.setControl_eu (s : State) (c : ControllerState) : (s.setControl c).eu = s.eu := rfl
@[simp] theorem State.setControl_tb (s : State) (c : ControllerState) : (s.setControl c).tb = s.tb := rfl
@[simp] theorem State.setControl_hp (s : State) (c : ControllerState) : (s.setControl c).hp = s.hp := rfl
@[simp] theorem State.setControl_avdd (s : State) (c : ControllerState) : (s.setControl c).avdd = s.avdd := rfl
@[simp] theorem State.setControl_resetAsserted (s : State) (c : ControllerState) : (s.setControl c).resetAsserted = s.resetAsserted := rfl
@[simp] theorem State.setControl_draws (s : State) (c : ControllerState) : (s.setControl c).draws = s.draws := rfl
@[simp] theorem State.setControl_pending (s : State) (c : ControllerState) : (s.setControl c).pending = s.pending := rfl
@[simp] theorem State.setControl_ring (s : State) (c : ControllerState) (i : Ring) :
     (s.setControl c).ring i = s.ring i := rfl
@[simp] theorem State.setControl_bank (s : State) (c : ControllerState) (i : Bank) :
     (s.setControl c).bank i = s.bank i := rfl
@[simp] theorem State.setControl_cell (s : State) (c : ControllerState) (i : Bank) :
     (s.setControl c).cell i = s.cell i := rfl
@[simp] theorem State.setControl_ref (s : State) (c : ControllerState) (i : Bank) (q : Ref) :
     (s.setControl c).ref i q = s.ref i q := rfl
@[simp] theorem State.setControl_entry (s : State) (c : ControllerState) (i : Entry) :
     (s.setControl c).entry i = s.entry i := rfl
@[simp] theorem State.setControl_holder (s : State) (c : ControllerState) (i : Bank) :
     (s.setControl c).holder i = s.holder i := rfl
@[simp] theorem State.setControl_now (s : State) (c : ControllerState) : (s.setControl c).now = s.now := rfl
@[simp] theorem State.setControl_headDesc (s : State) (c : ControllerState) (i : Bank) :
     (s.setControl c).headDesc i = s.headDesc i := rfl
@[simp] theorem State.setControl_headSource (s : State) (c : ControllerState) (i : Bank) :
     (s.setControl c).headSource i = s.headSource i := rfl

/-! `raise` -/

@[simp] theorem State.raise_cu (s : State) (c : Cause) : (s.raise c).cu = s.cu := rfl
@[simp] theorem State.raise_rings (s : State) (c : Cause) : (s.raise c).rings = s.rings := rfl
@[simp] theorem State.raise_fu (s : State) (c : Cause) : (s.raise c).fu = s.fu := rfl
@[simp] theorem State.raise_banks (s : State) (c : Cause) : (s.raise c).banks = s.banks := rfl
@[simp] theorem State.raise_cells (s : State) (c : Cause) : (s.raise c).cells = s.cells := rfl
@[simp] theorem State.raise_refs (s : State) (c : Cause) : (s.raise c).refs = s.refs := rfl
@[simp] theorem State.raise_sm (s : State) (c : Cause) : (s.raise c).sm = s.sm := rfl
@[simp] theorem State.raise_sched (s : State) (c : Cause) : (s.raise c).sched = s.sched := rfl
@[simp] theorem State.raise_cw (s : State) (c : Cause) : (s.raise c).cw = s.cw := rfl
@[simp] theorem State.raise_tb (s : State) (c : Cause) : (s.raise c).tb = s.tb := rfl
@[simp] theorem State.raise_hp (s : State) (c : Cause) : (s.raise c).hp = s.hp := rfl
@[simp] theorem State.raise_avdd (s : State) (c : Cause) : (s.raise c).avdd = s.avdd := rfl
@[simp] theorem State.raise_resetAsserted (s : State) (c : Cause) : (s.raise c).resetAsserted = s.resetAsserted := rfl
@[simp] theorem State.raise_draws (s : State) (c : Cause) : (s.raise c).draws = s.draws := rfl
@[simp] theorem State.raise_pending (s : State) (c : Cause) : (s.raise c).pending = s.pending := rfl
@[simp] theorem State.raise_ring (s : State) (c : Cause) (i : Ring) :
     (s.raise c).ring i = s.ring i := rfl
@[simp] theorem State.raise_bank (s : State) (c : Cause) (i : Bank) :
     (s.raise c).bank i = s.bank i := rfl
@[simp] theorem State.raise_cell (s : State) (c : Cause) (i : Bank) :
     (s.raise c).cell i = s.cell i := rfl
@[simp] theorem State.raise_ref (s : State) (c : Cause) (i : Bank) (q : Ref) :
     (s.raise c).ref i q = s.ref i q := rfl
@[simp] theorem State.raise_entry (s : State) (c : Cause) (i : Entry) :
     (s.raise c).entry i = s.entry i := rfl
@[simp] theorem State.raise_holder (s : State) (c : Cause) (i : Bank) :
     (s.raise c).holder i = s.holder i := rfl
@[simp] theorem State.raise_now (s : State) (c : Cause) : (s.raise c).now = s.now := rfl
@[simp] theorem State.raise_working (s : State) (c : Cause) : (s.raise c).working = s.working := rfl
@[simp] theorem State.raise_headDesc (s : State) (c : Cause) (i : Bank) :
     (s.raise c).headDesc i = s.headDesc i := rfl
@[simp] theorem State.raise_headSource (s : State) (c : Cause) (i : Bank) :
     (s.raise c).headSource i = s.headSource i := rfl

/-! `issueWrite` -/

@[simp] theorem State.issueWrite_cu (s : State) (w : BusWrite) : (s.issueWrite w).cu = s.cu := rfl
@[simp] theorem State.issueWrite_rings (s : State) (w : BusWrite) : (s.issueWrite w).rings = s.rings := rfl
@[simp] theorem State.issueWrite_fu (s : State) (w : BusWrite) : (s.issueWrite w).fu = s.fu := rfl
@[simp] theorem State.issueWrite_banks (s : State) (w : BusWrite) : (s.issueWrite w).banks = s.banks := rfl
@[simp] theorem State.issueWrite_cells (s : State) (w : BusWrite) : (s.issueWrite w).cells = s.cells := rfl
@[simp] theorem State.issueWrite_refs (s : State) (w : BusWrite) : (s.issueWrite w).refs = s.refs := rfl
@[simp] theorem State.issueWrite_sm (s : State) (w : BusWrite) : (s.issueWrite w).sm = s.sm := rfl
@[simp] theorem State.issueWrite_sched (s : State) (w : BusWrite) : (s.issueWrite w).sched = s.sched := rfl
@[simp] theorem State.issueWrite_cw (s : State) (w : BusWrite) : (s.issueWrite w).cw = s.cw := rfl
@[simp] theorem State.issueWrite_eu (s : State) (w : BusWrite) : (s.issueWrite w).eu = s.eu := rfl
@[simp] theorem State.issueWrite_tb (s : State) (w : BusWrite) : (s.issueWrite w).tb = s.tb := rfl
@[simp] theorem State.issueWrite_avdd (s : State) (w : BusWrite) : (s.issueWrite w).avdd = s.avdd := rfl
@[simp] theorem State.issueWrite_resetAsserted (s : State) (w : BusWrite) : (s.issueWrite w).resetAsserted = s.resetAsserted := rfl
@[simp] theorem State.issueWrite_draws (s : State) (w : BusWrite) : (s.issueWrite w).draws = s.draws := rfl
@[simp] theorem State.issueWrite_pending (s : State) (w : BusWrite) : (s.issueWrite w).pending = s.pending := rfl
@[simp] theorem State.issueWrite_ring (s : State) (w : BusWrite) (i : Ring) :
     (s.issueWrite w).ring i = s.ring i := rfl
@[simp] theorem State.issueWrite_bank (s : State) (w : BusWrite) (i : Bank) :
     (s.issueWrite w).bank i = s.bank i := rfl
@[simp] theorem State.issueWrite_cell (s : State) (w : BusWrite) (i : Bank) :
     (s.issueWrite w).cell i = s.cell i := rfl
@[simp] theorem State.issueWrite_ref (s : State) (w : BusWrite) (i : Bank) (q : Ref) :
     (s.issueWrite w).ref i q = s.ref i q := rfl
@[simp] theorem State.issueWrite_entry (s : State) (w : BusWrite) (i : Entry) :
     (s.issueWrite w).entry i = s.entry i := rfl
@[simp] theorem State.issueWrite_holder (s : State) (w : BusWrite) (i : Bank) :
     (s.issueWrite w).holder i = s.holder i := rfl
@[simp] theorem State.issueWrite_now (s : State) (w : BusWrite) : (s.issueWrite w).now = s.now := rfl
@[simp] theorem State.issueWrite_working (s : State) (w : BusWrite) : (s.issueWrite w).working = s.working := rfl
@[simp] theorem State.issueWrite_headDesc (s : State) (w : BusWrite) (i : Bank) :
     (s.issueWrite w).headDesc i = s.headDesc i := rfl
@[simp] theorem State.issueWrite_headSource (s : State) (w : BusWrite) (i : Bank) :
     (s.issueWrite w).headSource i = s.headSource i := rfl

/-! `setWrites` -/

@[simp] theorem State.setWrites_cu (s : State) (ws : List BusWrite) : (s.setWrites ws).cu = s.cu := rfl
@[simp] theorem State.setWrites_rings (s : State) (ws : List BusWrite) : (s.setWrites ws).rings = s.rings := rfl
@[simp] theorem State.setWrites_fu (s : State) (ws : List BusWrite) : (s.setWrites ws).fu = s.fu := rfl
@[simp] theorem State.setWrites_banks (s : State) (ws : List BusWrite) : (s.setWrites ws).banks = s.banks := rfl
@[simp] theorem State.setWrites_cells (s : State) (ws : List BusWrite) : (s.setWrites ws).cells = s.cells := rfl
@[simp] theorem State.setWrites_refs (s : State) (ws : List BusWrite) : (s.setWrites ws).refs = s.refs := rfl
@[simp] theorem State.setWrites_sm (s : State) (ws : List BusWrite) : (s.setWrites ws).sm = s.sm := rfl
@[simp] theorem State.setWrites_sched (s : State) (ws : List BusWrite) : (s.setWrites ws).sched = s.sched := rfl
@[simp] theorem State.setWrites_cw (s : State) (ws : List BusWrite) : (s.setWrites ws).cw = s.cw := rfl
@[simp] theorem State.setWrites_eu (s : State) (ws : List BusWrite) : (s.setWrites ws).eu = s.eu := rfl
@[simp] theorem State.setWrites_tb (s : State) (ws : List BusWrite) : (s.setWrites ws).tb = s.tb := rfl
@[simp] theorem State.setWrites_avdd (s : State) (ws : List BusWrite) : (s.setWrites ws).avdd = s.avdd := rfl
@[simp] theorem State.setWrites_resetAsserted (s : State) (ws : List BusWrite) : (s.setWrites ws).resetAsserted = s.resetAsserted := rfl
@[simp] theorem State.setWrites_draws (s : State) (ws : List BusWrite) : (s.setWrites ws).draws = s.draws := rfl
@[simp] theorem State.setWrites_pending (s : State) (ws : List BusWrite) : (s.setWrites ws).pending = s.pending := rfl
@[simp] theorem State.setWrites_ring (s : State) (ws : List BusWrite) (i : Ring) :
     (s.setWrites ws).ring i = s.ring i := rfl
@[simp] theorem State.setWrites_bank (s : State) (ws : List BusWrite) (i : Bank) :
     (s.setWrites ws).bank i = s.bank i := rfl
@[simp] theorem State.setWrites_cell (s : State) (ws : List BusWrite) (i : Bank) :
     (s.setWrites ws).cell i = s.cell i := rfl
@[simp] theorem State.setWrites_ref (s : State) (ws : List BusWrite) (i : Bank) (q : Ref) :
     (s.setWrites ws).ref i q = s.ref i q := rfl
@[simp] theorem State.setWrites_entry (s : State) (ws : List BusWrite) (i : Entry) :
     (s.setWrites ws).entry i = s.entry i := rfl
@[simp] theorem State.setWrites_holder (s : State) (ws : List BusWrite) (i : Bank) :
     (s.setWrites ws).holder i = s.holder i := rfl
@[simp] theorem State.setWrites_now (s : State) (ws : List BusWrite) : (s.setWrites ws).now = s.now := rfl
@[simp] theorem State.setWrites_working (s : State) (ws : List BusWrite) : (s.setWrites ws).working = s.working := rfl
@[simp] theorem State.setWrites_headDesc (s : State) (ws : List BusWrite) (i : Bank) :
     (s.setWrites ws).headDesc i = s.headDesc i := rfl
@[simp] theorem State.setWrites_headSource (s : State) (ws : List BusWrite) (i : Bank) :
     (s.setWrites ws).headSource i = s.headSource i := rfl

/-! `setRead` -/

@[simp] theorem State.setRead_cu (s : State) (r : Option BusRead) : (s.setRead r).cu = s.cu := rfl
@[simp] theorem State.setRead_rings (s : State) (r : Option BusRead) : (s.setRead r).rings = s.rings := rfl
@[simp] theorem State.setRead_fu (s : State) (r : Option BusRead) : (s.setRead r).fu = s.fu := rfl
@[simp] theorem State.setRead_banks (s : State) (r : Option BusRead) : (s.setRead r).banks = s.banks := rfl
@[simp] theorem State.setRead_cells (s : State) (r : Option BusRead) : (s.setRead r).cells = s.cells := rfl
@[simp] theorem State.setRead_refs (s : State) (r : Option BusRead) : (s.setRead r).refs = s.refs := rfl
@[simp] theorem State.setRead_sm (s : State) (r : Option BusRead) : (s.setRead r).sm = s.sm := rfl
@[simp] theorem State.setRead_sched (s : State) (r : Option BusRead) : (s.setRead r).sched = s.sched := rfl
@[simp] theorem State.setRead_cw (s : State) (r : Option BusRead) : (s.setRead r).cw = s.cw := rfl
@[simp] theorem State.setRead_eu (s : State) (r : Option BusRead) : (s.setRead r).eu = s.eu := rfl
@[simp] theorem State.setRead_tb (s : State) (r : Option BusRead) : (s.setRead r).tb = s.tb := rfl
@[simp] theorem State.setRead_avdd (s : State) (r : Option BusRead) : (s.setRead r).avdd = s.avdd := rfl
@[simp] theorem State.setRead_resetAsserted (s : State) (r : Option BusRead) : (s.setRead r).resetAsserted = s.resetAsserted := rfl
@[simp] theorem State.setRead_draws (s : State) (r : Option BusRead) : (s.setRead r).draws = s.draws := rfl
@[simp] theorem State.setRead_pending (s : State) (r : Option BusRead) : (s.setRead r).pending = s.pending := rfl
@[simp] theorem State.setRead_ring (s : State) (r : Option BusRead) (i : Ring) :
     (s.setRead r).ring i = s.ring i := rfl
@[simp] theorem State.setRead_bank (s : State) (r : Option BusRead) (i : Bank) :
     (s.setRead r).bank i = s.bank i := rfl
@[simp] theorem State.setRead_cell (s : State) (r : Option BusRead) (i : Bank) :
     (s.setRead r).cell i = s.cell i := rfl
@[simp] theorem State.setRead_ref (s : State) (r : Option BusRead) (i : Bank) (q : Ref) :
     (s.setRead r).ref i q = s.ref i q := rfl
@[simp] theorem State.setRead_entry (s : State) (r : Option BusRead) (i : Entry) :
     (s.setRead r).entry i = s.entry i := rfl
@[simp] theorem State.setRead_holder (s : State) (r : Option BusRead) (i : Bank) :
     (s.setRead r).holder i = s.holder i := rfl
@[simp] theorem State.setRead_now (s : State) (r : Option BusRead) : (s.setRead r).now = s.now := rfl
@[simp] theorem State.setRead_working (s : State) (r : Option BusRead) : (s.setRead r).working = s.working := rfl
@[simp] theorem State.setRead_headDesc (s : State) (r : Option BusRead) (i : Bank) :
     (s.setRead r).headDesc i = s.headDesc i := rfl
@[simp] theorem State.setRead_headSource (s : State) (r : Option BusRead) (i : Bank) :
     (s.setRead r).headSource i = s.headSource i := rfl

/-! `pushRecord` -/

@[simp] theorem State.pushRecord_cu (s : State) (r : Record) : (s.pushRecord r).cu = s.cu := rfl
@[simp] theorem State.pushRecord_rings (s : State) (r : Record) : (s.pushRecord r).rings = s.rings := rfl
@[simp] theorem State.pushRecord_banks (s : State) (r : Record) : (s.pushRecord r).banks = s.banks := rfl
@[simp] theorem State.pushRecord_cells (s : State) (r : Record) : (s.pushRecord r).cells = s.cells := rfl
@[simp] theorem State.pushRecord_refs (s : State) (r : Record) : (s.pushRecord r).refs = s.refs := rfl
@[simp] theorem State.pushRecord_sm (s : State) (r : Record) : (s.pushRecord r).sm = s.sm := rfl
@[simp] theorem State.pushRecord_sched (s : State) (r : Record) : (s.pushRecord r).sched = s.sched := rfl
@[simp] theorem State.pushRecord_cw (s : State) (r : Record) : (s.pushRecord r).cw = s.cw := rfl
@[simp] theorem State.pushRecord_eu (s : State) (r : Record) : (s.pushRecord r).eu = s.eu := rfl
@[simp] theorem State.pushRecord_tb (s : State) (r : Record) : (s.pushRecord r).tb = s.tb := rfl
@[simp] theorem State.pushRecord_hp (s : State) (r : Record) : (s.pushRecord r).hp = s.hp := rfl
@[simp] theorem State.pushRecord_avdd (s : State) (r : Record) : (s.pushRecord r).avdd = s.avdd := rfl
@[simp] theorem State.pushRecord_resetAsserted (s : State) (r : Record) : (s.pushRecord r).resetAsserted = s.resetAsserted := rfl
@[simp] theorem State.pushRecord_draws (s : State) (r : Record) : (s.pushRecord r).draws = s.draws := rfl
@[simp] theorem State.pushRecord_pending (s : State) (r : Record) : (s.pushRecord r).pending = s.pending := rfl
@[simp] theorem State.pushRecord_ring (s : State) (r : Record) (i : Ring) :
     (s.pushRecord r).ring i = s.ring i := rfl
@[simp] theorem State.pushRecord_bank (s : State) (r : Record) (i : Bank) :
     (s.pushRecord r).bank i = s.bank i := rfl
@[simp] theorem State.pushRecord_cell (s : State) (r : Record) (i : Bank) :
     (s.pushRecord r).cell i = s.cell i := rfl
@[simp] theorem State.pushRecord_ref (s : State) (r : Record) (i : Bank) (q : Ref) :
     (s.pushRecord r).ref i q = s.ref i q := rfl
@[simp] theorem State.pushRecord_entry (s : State) (r : Record) (i : Entry) :
     (s.pushRecord r).entry i = s.entry i := rfl
@[simp] theorem State.pushRecord_holder (s : State) (r : Record) (i : Bank) :
     (s.pushRecord r).holder i = s.holder i := rfl
@[simp] theorem State.pushRecord_now (s : State) (r : Record) : (s.pushRecord r).now = s.now := rfl
@[simp] theorem State.pushRecord_working (s : State) (r : Record) : (s.pushRecord r).working = s.working := rfl
@[simp] theorem State.pushRecord_headDesc (s : State) (r : Record) (i : Bank) :
     (s.pushRecord r).headDesc i = s.headDesc i := rfl
@[simp] theorem State.pushRecord_headSource (s : State) (r : Record) (i : Bank) :
     (s.pushRecord r).headSource i = s.headSource i := rfl

/-! `setSeq` -/

@[simp] theorem State.setSeq_cu (s : State) (b : Bank) (q0 : SeqState) : (s.setSeq b q0).cu = s.cu := rfl
@[simp] theorem State.setSeq_rings (s : State) (b : Bank) (q0 : SeqState) : (s.setSeq b q0).rings = s.rings := rfl
@[simp] theorem State.setSeq_fu (s : State) (b : Bank) (q0 : SeqState) : (s.setSeq b q0).fu = s.fu := rfl
@[simp] theorem State.setSeq_cells (s : State) (b : Bank) (q0 : SeqState) : (s.setSeq b q0).cells = s.cells := rfl
@[simp] theorem State.setSeq_refs (s : State) (b : Bank) (q0 : SeqState) : (s.setSeq b q0).refs = s.refs := rfl
@[simp] theorem State.setSeq_sm (s : State) (b : Bank) (q0 : SeqState) : (s.setSeq b q0).sm = s.sm := rfl
@[simp] theorem State.setSeq_sched (s : State) (b : Bank) (q0 : SeqState) : (s.setSeq b q0).sched = s.sched := rfl
@[simp] theorem State.setSeq_cw (s : State) (b : Bank) (q0 : SeqState) : (s.setSeq b q0).cw = s.cw := rfl
@[simp] theorem State.setSeq_eu (s : State) (b : Bank) (q0 : SeqState) : (s.setSeq b q0).eu = s.eu := rfl
@[simp] theorem State.setSeq_tb (s : State) (b : Bank) (q0 : SeqState) : (s.setSeq b q0).tb = s.tb := rfl
@[simp] theorem State.setSeq_hp (s : State) (b : Bank) (q0 : SeqState) : (s.setSeq b q0).hp = s.hp := rfl
@[simp] theorem State.setSeq_avdd (s : State) (b : Bank) (q0 : SeqState) : (s.setSeq b q0).avdd = s.avdd := rfl
@[simp] theorem State.setSeq_resetAsserted (s : State) (b : Bank) (q0 : SeqState) : (s.setSeq b q0).resetAsserted = s.resetAsserted := rfl
@[simp] theorem State.setSeq_draws (s : State) (b : Bank) (q0 : SeqState) : (s.setSeq b q0).draws = s.draws := rfl
@[simp] theorem State.setSeq_pending (s : State) (b : Bank) (q0 : SeqState) : (s.setSeq b q0).pending = s.pending := rfl
@[simp] theorem State.setSeq_ring (s : State) (b : Bank) (q0 : SeqState) (i : Ring) :
     (s.setSeq b q0).ring i = s.ring i := rfl
@[simp] theorem State.setSeq_cell (s : State) (b : Bank) (q0 : SeqState) (i : Bank) :
     (s.setSeq b q0).cell i = s.cell i := rfl
@[simp] theorem State.setSeq_ref (s : State) (b : Bank) (q0 : SeqState) (i : Bank) (q : Ref) :
     (s.setSeq b q0).ref i q = s.ref i q := rfl
@[simp] theorem State.setSeq_entry (s : State) (b : Bank) (q0 : SeqState) (i : Entry) :
     (s.setSeq b q0).entry i = s.entry i := rfl
@[simp] theorem State.setSeq_holder (s : State) (b : Bank) (q0 : SeqState) (i : Bank) :
     (s.setSeq b q0).holder i = s.holder i := rfl
@[simp] theorem State.setSeq_now (s : State) (b : Bank) (q0 : SeqState) : (s.setSeq b q0).now = s.now := rfl
@[simp] theorem State.setSeq_working (s : State) (b : Bank) (q0 : SeqState) : (s.setSeq b q0).working = s.working := rfl

/-! `mapContext` -/

@[simp] theorem State.mapContext_cu (s : State) (b : Bank) (f : Context → Context) : (s.mapContext b f).cu = s.cu := rfl
@[simp] theorem State.mapContext_rings (s : State) (b : Bank) (f : Context → Context) : (s.mapContext b f).rings = s.rings := rfl
@[simp] theorem State.mapContext_fu (s : State) (b : Bank) (f : Context → Context) : (s.mapContext b f).fu = s.fu := rfl
@[simp] theorem State.mapContext_cells (s : State) (b : Bank) (f : Context → Context) : (s.mapContext b f).cells = s.cells := rfl
@[simp] theorem State.mapContext_refs (s : State) (b : Bank) (f : Context → Context) : (s.mapContext b f).refs = s.refs := rfl
@[simp] theorem State.mapContext_sm (s : State) (b : Bank) (f : Context → Context) : (s.mapContext b f).sm = s.sm := rfl
@[simp] theorem State.mapContext_sched (s : State) (b : Bank) (f : Context → Context) : (s.mapContext b f).sched = s.sched := rfl
@[simp] theorem State.mapContext_cw (s : State) (b : Bank) (f : Context → Context) : (s.mapContext b f).cw = s.cw := rfl
@[simp] theorem State.mapContext_eu (s : State) (b : Bank) (f : Context → Context) : (s.mapContext b f).eu = s.eu := rfl
@[simp] theorem State.mapContext_tb (s : State) (b : Bank) (f : Context → Context) : (s.mapContext b f).tb = s.tb := rfl
@[simp] theorem State.mapContext_hp (s : State) (b : Bank) (f : Context → Context) : (s.mapContext b f).hp = s.hp := rfl
@[simp] theorem State.mapContext_avdd (s : State) (b : Bank) (f : Context → Context) : (s.mapContext b f).avdd = s.avdd := rfl
@[simp] theorem State.mapContext_resetAsserted (s : State) (b : Bank) (f : Context → Context) : (s.mapContext b f).resetAsserted = s.resetAsserted := rfl
@[simp] theorem State.mapContext_draws (s : State) (b : Bank) (f : Context → Context) : (s.mapContext b f).draws = s.draws := rfl
@[simp] theorem State.mapContext_pending (s : State) (b : Bank) (f : Context → Context) : (s.mapContext b f).pending = s.pending := rfl
@[simp] theorem State.mapContext_ring (s : State) (b : Bank) (f : Context → Context) (i : Ring) :
     (s.mapContext b f).ring i = s.ring i := rfl
@[simp] theorem State.mapContext_cell (s : State) (b : Bank) (f : Context → Context) (i : Bank) :
     (s.mapContext b f).cell i = s.cell i := rfl
@[simp] theorem State.mapContext_ref (s : State) (b : Bank) (f : Context → Context) (i : Bank) (q : Ref) :
     (s.mapContext b f).ref i q = s.ref i q := rfl
@[simp] theorem State.mapContext_entry (s : State) (b : Bank) (f : Context → Context) (i : Entry) :
     (s.mapContext b f).entry i = s.entry i := rfl
@[simp] theorem State.mapContext_holder (s : State) (b : Bank) (f : Context → Context) (i : Bank) :
     (s.mapContext b f).holder i = s.holder i := rfl
@[simp] theorem State.mapContext_now (s : State) (b : Bank) (f : Context → Context) : (s.mapContext b f).now = s.now := rfl
@[simp] theorem State.mapContext_working (s : State) (b : Bank) (f : Context → Context) : (s.mapContext b f).working = s.working := rfl

/-! `writeStatus` -/

@[simp] theorem State.writeStatus_cu (s : State) : (s.writeStatus).cu = s.cu := rfl
@[simp] theorem State.writeStatus_rings (s : State) : (s.writeStatus).rings = s.rings := rfl
@[simp] theorem State.writeStatus_fu (s : State) : (s.writeStatus).fu = s.fu := rfl
@[simp] theorem State.writeStatus_banks (s : State) : (s.writeStatus).banks = s.banks := rfl
@[simp] theorem State.writeStatus_cells (s : State) : (s.writeStatus).cells = s.cells := rfl
@[simp] theorem State.writeStatus_refs (s : State) : (s.writeStatus).refs = s.refs := rfl
@[simp] theorem State.writeStatus_sm (s : State) : (s.writeStatus).sm = s.sm := rfl
@[simp] theorem State.writeStatus_sched (s : State) : (s.writeStatus).sched = s.sched := rfl
@[simp] theorem State.writeStatus_cw (s : State) : (s.writeStatus).cw = s.cw := rfl
@[simp] theorem State.writeStatus_eu (s : State) : (s.writeStatus).eu = s.eu := rfl
@[simp] theorem State.writeStatus_tb (s : State) : (s.writeStatus).tb = s.tb := rfl
@[simp] theorem State.writeStatus_avdd (s : State) : (s.writeStatus).avdd = s.avdd := rfl
@[simp] theorem State.writeStatus_resetAsserted (s : State) : (s.writeStatus).resetAsserted = s.resetAsserted := rfl
@[simp] theorem State.writeStatus_draws (s : State) : (s.writeStatus).draws = s.draws := rfl
@[simp] theorem State.writeStatus_pending (s : State) : (s.writeStatus).pending = s.pending := rfl
@[simp] theorem State.writeStatus_ring (s : State) (i : Ring) :
     (s.writeStatus).ring i = s.ring i := rfl
@[simp] theorem State.writeStatus_bank (s : State) (i : Bank) :
     (s.writeStatus).bank i = s.bank i := rfl
@[simp] theorem State.writeStatus_cell (s : State) (i : Bank) :
     (s.writeStatus).cell i = s.cell i := rfl
@[simp] theorem State.writeStatus_ref (s : State) (i : Bank) (q : Ref) :
     (s.writeStatus).ref i q = s.ref i q := rfl
@[simp] theorem State.writeStatus_entry (s : State) (i : Entry) :
     (s.writeStatus).entry i = s.entry i := rfl
@[simp] theorem State.writeStatus_holder (s : State) (i : Bank) :
     (s.writeStatus).holder i = s.holder i := rfl
@[simp] theorem State.writeStatus_now (s : State) : (s.writeStatus).now = s.now := rfl
@[simp] theorem State.writeStatus_working (s : State) : (s.writeStatus).working = s.working := rfl
@[simp] theorem State.writeStatus_headDesc (s : State) (i : Bank) :
     (s.writeStatus).headDesc i = s.headDesc i := rfl
@[simp] theorem State.writeStatus_headSource (s : State) (i : Bank) :
     (s.writeStatus).headSource i = s.headSource i := rfl

/-! `setAvdd` -/

@[simp] theorem State.setAvdd_avdd (s : State) (mv : Nat) : (s.setAvdd mv).avdd = mv := rfl
@[simp] theorem State.setAvdd_sm (s : State) (mv : Nat) :
    (s.setAvdd mv).sm = { s.sm with reading := s.sm.readingAt mv } := rfl
@[simp] theorem State.setAvdd_holder (s : State) (mv : Nat) (i : Bank) :
     (s.setAvdd mv).holder i = s.holder i := rfl
@[simp] theorem State.setAvdd_cu (s : State) (mv : Nat) : (s.setAvdd mv).cu = s.cu := rfl
@[simp] theorem State.setAvdd_rings (s : State) (mv : Nat) : (s.setAvdd mv).rings = s.rings := rfl
@[simp] theorem State.setAvdd_fu (s : State) (mv : Nat) : (s.setAvdd mv).fu = s.fu := rfl
@[simp] theorem State.setAvdd_banks (s : State) (mv : Nat) : (s.setAvdd mv).banks = s.banks := rfl
@[simp] theorem State.setAvdd_cells (s : State) (mv : Nat) : (s.setAvdd mv).cells = s.cells := rfl
@[simp] theorem State.setAvdd_refs (s : State) (mv : Nat) : (s.setAvdd mv).refs = s.refs := rfl
@[simp] theorem State.setAvdd_sched (s : State) (mv : Nat) : (s.setAvdd mv).sched = s.sched := rfl
@[simp] theorem State.setAvdd_cw (s : State) (mv : Nat) : (s.setAvdd mv).cw = s.cw := rfl
@[simp] theorem State.setAvdd_eu (s : State) (mv : Nat) : (s.setAvdd mv).eu = s.eu := rfl
@[simp] theorem State.setAvdd_tb (s : State) (mv : Nat) : (s.setAvdd mv).tb = s.tb := rfl
@[simp] theorem State.setAvdd_hp (s : State) (mv : Nat) : (s.setAvdd mv).hp = s.hp := rfl
@[simp] theorem State.setAvdd_resetAsserted (s : State) (mv : Nat) : (s.setAvdd mv).resetAsserted = s.resetAsserted := rfl
@[simp] theorem State.setAvdd_draws (s : State) (mv : Nat) : (s.setAvdd mv).draws = s.draws := rfl
@[simp] theorem State.setAvdd_pending (s : State) (mv : Nat) : (s.setAvdd mv).pending = s.pending := rfl
@[simp] theorem State.setAvdd_ring (s : State) (mv : Nat) (i : Ring) :
     (s.setAvdd mv).ring i = s.ring i := rfl
@[simp] theorem State.setAvdd_bank (s : State) (mv : Nat) (i : Bank) :
     (s.setAvdd mv).bank i = s.bank i := rfl
@[simp] theorem State.setAvdd_cell (s : State) (mv : Nat) (i : Bank) :
     (s.setAvdd mv).cell i = s.cell i := rfl
@[simp] theorem State.setAvdd_ref (s : State) (mv : Nat) (i : Bank) (q : Ref) :
     (s.setAvdd mv).ref i q = s.ref i q := rfl
@[simp] theorem State.setAvdd_entry (s : State) (mv : Nat) (i : Entry) :
     (s.setAvdd mv).entry i = s.entry i := rfl
@[simp] theorem State.setAvdd_now (s : State) (mv : Nat) : (s.setAvdd mv).now = s.now := rfl
@[simp] theorem State.setAvdd_working (s : State) (mv : Nat) : (s.setAvdd mv).working = s.working := rfl
@[simp] theorem State.setAvdd_headDesc (s : State) (mv : Nat) (i : Bank) :
     (s.setAvdd mv).headDesc i = s.headDesc i := rfl
@[simp] theorem State.setAvdd_headSource (s : State) (mv : Nat) (i : Bank) :
     (s.setAvdd mv).headSource i = s.headSource i := rfl

@[simp] theorem State.setRing_ring_same (s : State) (i : Ring) (x : SubRing) : (s.setRing i x).ring i = x := by
  simp [State.setRing, State.ring]

theorem State.setRing_ring (s : State) (i j : Ring) (x : SubRing) :
    (s.setRing i x).ring j = if i = j then x else s.ring j := by
  by_cases h : i = j
  · subst h; simp
  · have : i.val ≠ j.val := fun e => h (Fin.ext e)
    simp [State.setRing, State.ring, h, this]

theorem State.setRing_ring_of_ne (s : State) {i j : Ring} (h : i ≠ j) (x : SubRing) :
    (s.setRing i x).ring j = s.ring j := by
  simp [State.setRing_ring, h]

@[simp] theorem State.setBank_bank_same (s : State) (i : Bank) (x : BankSeq) : (s.setBank i x).bank i = x := by
  simp [State.setBank, State.bank]

theorem State.setBank_bank (s : State) (i j : Bank) (x : BankSeq) :
    (s.setBank i x).bank j = if i = j then x else s.bank j := by
  by_cases h : i = j
  · subst h; simp
  · have : i.val ≠ j.val := fun e => h (Fin.ext e)
    simp [State.setBank, State.bank, h, this]

theorem State.setBank_bank_of_ne (s : State) {i j : Bank} (h : i ≠ j) (x : BankSeq) :
    (s.setBank i x).bank j = s.bank j := by
  simp [State.setBank_bank, h]

@[simp] theorem State.setCell_cell_same (s : State) (i : Bank) (x : Cell) : (s.setCell i x).cell i = x := by
  simp [State.setCell, State.cell]

theorem State.setCell_cell (s : State) (i j : Bank) (x : Cell) :
    (s.setCell i x).cell j = if i = j then x else s.cell j := by
  by_cases h : i = j
  · subst h; simp
  · have : i.val ≠ j.val := fun e => h (Fin.ext e)
    simp [State.setCell, State.cell, h, this]

theorem State.setCell_cell_of_ne (s : State) {i j : Bank} (h : i ≠ j) (x : Cell) :
    (s.setCell i x).cell j = s.cell j := by
  simp [State.setCell_cell, h]

@[simp] theorem State.setEntry_entry_same (s : State) (i : Entry) (x : SchedEntry) : (s.setEntry i x).entry i = x := by
  simp [State.setEntry, State.entry]

theorem State.setEntry_entry (s : State) (i j : Entry) (x : SchedEntry) :
    (s.setEntry i x).entry j = if i = j then x else s.entry j := by
  by_cases h : i = j
  · subst h; simp
  · have : i.val ≠ j.val := fun e => h (Fin.ext e)
    simp [State.setEntry, State.entry, h, this]

theorem State.setEntry_entry_of_ne (s : State) {i j : Entry} (h : i ≠ j) (x : SchedEntry) :
    (s.setEntry i x).entry j = s.entry j := by
  simp [State.setEntry_entry, h]

@[simp] theorem State.setHolder_holder_same (s : State) (i : Bank) (x : Option Holder) : (s.setHolder i x).holder i = x := by
  simp [State.setHolder, State.holder]

theorem State.setHolder_holder (s : State) (i j : Bank) (x : Option Holder) :
    (s.setHolder i x).holder j = if i = j then x else s.holder j := by
  by_cases h : i = j
  · subst h; simp
  · have : i.val ≠ j.val := fun e => h (Fin.ext e)
    simp [State.setHolder, State.holder, h, this]

theorem State.setHolder_holder_of_ne (s : State) {i j : Bank} (h : i ≠ j) (x : Option Holder) :
    (s.setHolder i x).holder j = s.holder j := by
  simp [State.setHolder_holder, h]

theorem RefPair.entry_setEntry (p : RefPair) (r q : Ref) (x : RefEntry) :
    (p.setEntry r x).entry q = if r = q then x else p.entry q := by
  cases r <;> cases q <;> rfl

theorem State.setRef_ref (s : State) (b i : Bank) (r q : Ref) (x : RefEntry) :
    (s.setRef b r x).ref i q = if b = i ∧ r = q then x else s.ref i q := by
  by_cases h : b = i
  · subst h
    simp [State.setRef, State.ref, RefPair.entry_setEntry]
  · have : b.val ≠ i.val := fun e => h (Fin.ext e)
    simp [State.setRef, State.ref, h, this]

@[simp] theorem State.setRef_ref_same (s : State) (b : Bank) (r : Ref) (x : RefEntry) :
    (s.setRef b r x).ref b r = x := by
  simp [State.setRef_ref]

@[simp] theorem State.holdNotice_ref (s : State) (b i : Bank) (r : Ref) : (s.holdNotice b).ref i r = s.ref i r := by
  by_cases h : b = i
  · subst h; cases r <;> simp [State.holdNotice, State.ref, RefPair.entry]
  · have : b.val ≠ i.val := fun e => h (Fin.ext e)
    simp [State.holdNotice, State.ref, this]

theorem State.deliverNotice_ref (s : State) (b i : Bank) (r : Ref) :
    (s.deliverNotice b).ref i r = if b = i ∧ s.refs[b].noticeDue then (s.ref i r).supplyLow else s.ref i r := by
  by_cases h : b = i
  · subst h
    cases r <;> by_cases d : s.refs[b].noticeDue = true <;>
      simp_all [State.deliverNotice, State.ref, RefPair.entry, RefPair.takeNotice]
  · have : b.val ≠ i.val := fun e => h (Fin.ext e)
    simp [State.deliverNotice, State.ref, this, h]

@[simp] theorem State.setHolder_sm_state (s : State) (b : Bank) (x : Option Holder) :
    (s.setHolder b x).sm.state = s.sm.state := rfl

@[simp] theorem State.setHolder_sm_reading (s : State) (b : Bank) (x : Option Holder) :
    (s.setHolder b x).sm.reading = s.sm.reading := rfl

@[simp] theorem State.setHolder_readsLow (s : State) (b : Bank) (x : Option Holder) :
    (s.setHolder b x).readsLow = s.readsLow := rfl

@[simp] theorem State.setControl_state (s : State) (c : ControllerState) :
    (s.setControl c).cu.state = c := rfl

@[simp] theorem State.setWrites_writes (s : State) (ws : List BusWrite) : (s.setWrites ws).hp.writes = ws := rfl

@[simp] theorem State.setRead_read (s : State) (r : Option BusRead) : (s.setRead r).hp.read = r := rfl

@[simp] theorem State.setRead_writes (s : State) (r : Option BusRead) :
    (s.setRead r).hp.writes = s.hp.writes := rfl

@[simp] theorem State.pushRecord_posting (s : State) (r : Record) :
    (s.pushRecord r).fu.posting = s.fu.posting ++ [r] := rfl

@[simp] theorem State.setSeq_bank_same (s : State) (b : Bank) (q : SeqState) :
    (s.setSeq b q).bank b = { s.bank b with seq := q } := by
  simp [State.setSeq]

@[simp] theorem State.mapContext_bank_same (s : State) (b : Bank) (f : Context → Context) :
    (s.mapContext b f).bank b = { s.bank b with context := (s.bank b).context.map f } := by
  simp [State.mapContext]

theorem State.setSeq_bank_of_ne (s : State) {b i : Bank} (h : b ≠ i) (q : SeqState) :
    (s.setSeq b q).bank i = s.bank i := by
  simp [State.setSeq, State.setBank_bank, h]

theorem State.mapContext_bank_of_ne (s : State) {b i : Bank} (h : b ≠ i) (f : Context → Context) :
    (s.mapContext b f).bank i = s.bank i := by
  simp [State.mapContext, State.setBank_bank, h]

@[simp] theorem State.setSeq_headDesc (s : State) (b i : Bank) (q : SeqState) :
    (s.setSeq b q).headDesc i = s.headDesc i := by
  by_cases h : b = i
  · subst h; simp [State.headDesc]
  · simp [State.headDesc, State.setSeq_bank_of_ne _ h]

@[simp] theorem State.setSeq_headSource (s : State) (b i : Bank) (q : SeqState) :
    (s.setSeq b q).headSource i = s.headSource i := by
  by_cases h : b = i
  · subst h; simp [State.headSource]
  · simp [State.headSource, State.setSeq_bank_of_ne _ h]

@[simp] theorem State.mapContext_headDesc (s : State) (b i : Bank) (f : Context → Context) :
    (s.mapContext b f).headDesc i = s.headDesc i := by
  by_cases h : b = i
  · subst h; simp [State.headDesc]
  · simp [State.headDesc, State.mapContext_bank_of_ne _ h]

@[simp] theorem State.mapContext_headSource (s : State) (b i : Bank) (f : Context → Context) :
    (s.mapContext b f).headSource i = s.headSource i := by
  by_cases h : b = i
  · subst h; simp [State.headSource]
  · simp [State.headSource, State.mapContext_bank_of_ne _ h]

/-- The causes set after a cause is raised. -/
@[simp] theorem State.raise_mask (s : State) (c : Cause) : (s.raise c).eu.mask = s.eu.mask := rfl

/-- The hold set is empty when no bank has a holder. -/
theorem SupplyMonitor.noHolders_iff (m : SupplyMonitor) :
    m.noHolders = true ↔ ∀ b : Bank, m.holders[b] = none := by
  simp [SupplyMonitor.noHolders]

/-- With RESET_N released a guarded command is its effect. -/
theorem whenReleased_eq {f : State → State} {s : State} (h : s.resetAsserted = false) :
    whenReleased f s = f s := by
  simp [whenReleased, h]

end Sys2Proof.Machine
end

