-- ==== Sys2Proof/Laws/Frames.lean ====
section
/-! SUPPORT. What each shared operation leaves alone: one lemma per operation, one conjunct per field of the state it
does not change. -/
namespace Sys2Proof.Machine

open Sys2Proof

/-- A fold keeps what each of its steps keeps. -/
theorem foldl_keeps {α β : Type} (g : State → β) (f : State → α → State) (h : ∀ s a, g (f s a) = g s)
    (l : List α) : ∀ s, g (l.foldl f s) = g s := by
  induction l with
  | nil => intro s; rfl
  | cons a l ih => intro s; rw [List.foldl_cons, ih, h]

@[simp] theorem State.supplyLowNotice_frame (s : State) (b : Bank) :
    (s.supplyLowNotice b).cu = s.cu ∧ (s.supplyLowNotice b).rings = s.rings ∧ (s.supplyLowNotice b).fu = s.fu ∧
    (s.supplyLowNotice b).banks = s.banks ∧ (s.supplyLowNotice b).cells = s.cells ∧
    (s.supplyLowNotice b).sm = s.sm ∧ (s.supplyLowNotice b).sched = s.sched ∧ (s.supplyLowNotice b).cw = s.cw ∧
    (s.supplyLowNotice b).eu = s.eu ∧ (s.supplyLowNotice b).tb = s.tb ∧ (s.supplyLowNotice b).hp = s.hp ∧
    (s.supplyLowNotice b).avdd = s.avdd ∧ (s.supplyLowNotice b).resetAsserted = s.resetAsserted ∧
    (s.supplyLowNotice b).draws = s.draws ∧ (s.supplyLowNotice b).pending = s.pending ∧
    (∀ i, (s.supplyLowNotice b).ring i = s.ring i) ∧ (∀ i, (s.supplyLowNotice b).bank i = s.bank i) ∧
    (∀ i, (s.supplyLowNotice b).cell i = s.cell i) ∧ (∀ i, (s.supplyLowNotice b).entry i = s.entry i) ∧
    (∀ i, (s.supplyLowNotice b).holder i = s.holder i) := by
  simp [State.supplyLowNotice]

/-- A notice, taken now or held, reaches the reference table and the count of draws, and nothing else. -/
@[simp] theorem State.sendNotice_frame (s : State) (b : Bank) :
    (s.sendNotice b).cu = s.cu ∧ (s.sendNotice b).rings = s.rings ∧ (s.sendNotice b).fu = s.fu ∧
    (s.sendNotice b).banks = s.banks ∧ (s.sendNotice b).cells = s.cells ∧ (s.sendNotice b).sm = s.sm ∧
    (s.sendNotice b).sched = s.sched ∧ (s.sendNotice b).cw = s.cw ∧ (s.sendNotice b).eu = s.eu ∧
    (s.sendNotice b).tb = s.tb ∧ (s.sendNotice b).hp = s.hp ∧ (s.sendNotice b).avdd = s.avdd ∧
    (s.sendNotice b).resetAsserted = s.resetAsserted ∧ (s.sendNotice b).pending = s.pending ∧
    (∀ i, (s.sendNotice b).ring i = s.ring i) ∧ (∀ i, (s.sendNotice b).bank i = s.bank i) ∧
    (∀ i, (s.sendNotice b).cell i = s.cell i) ∧ (∀ i, (s.sendNotice b).entry i = s.entry i) ∧
    (∀ i, (s.sendNotice b).holder i = s.holder i) := by
  unfold State.sendNotice
  dsimp only
  split <;> simp [State.ring, State.bank, State.cell, State.entry, State.holder]

@[simp] theorem State.clearLowSeen_frame (s : State) (b : Bank) :
    (s.clearLowSeen b).cu = s.cu ∧ (s.clearLowSeen b).rings = s.rings ∧ (s.clearLowSeen b).fu = s.fu ∧
    (s.clearLowSeen b).banks = s.banks ∧ (s.clearLowSeen b).cells = s.cells ∧
    (s.clearLowSeen b).refs = s.refs ∧ (s.clearLowSeen b).sched = s.sched ∧ (s.clearLowSeen b).cw = s.cw ∧
    (s.clearLowSeen b).eu = s.eu ∧ (s.clearLowSeen b).tb = s.tb ∧ (s.clearLowSeen b).hp = s.hp ∧
    (s.clearLowSeen b).avdd = s.avdd ∧ (s.clearLowSeen b).resetAsserted = s.resetAsserted ∧
    (s.clearLowSeen b).draws = s.draws ∧ (s.clearLowSeen b).pending = s.pending ∧
    (∀ i, (s.clearLowSeen b).ring i = s.ring i) ∧ (∀ i, (s.clearLowSeen b).bank i = s.bank i) ∧
    (∀ i, (s.clearLowSeen b).cell i = s.cell i) ∧ (∀ i q, (s.clearLowSeen b).ref i q = s.ref i q) ∧
    (∀ i, (s.clearLowSeen b).entry i = s.entry i) := by
  unfold State.clearLowSeen
  split <;> simp

@[simp] theorem State.releaseHold_frame (s : State) (b : Bank) :
    (s.releaseHold b).cu = s.cu ∧ (s.releaseHold b).rings = s.rings ∧ (s.releaseHold b).fu = s.fu ∧
    (s.releaseHold b).banks = s.banks ∧ (s.releaseHold b).cells = s.cells ∧ (s.releaseHold b).refs = s.refs ∧
    (s.releaseHold b).sched = s.sched ∧ (s.releaseHold b).cw = s.cw ∧ (s.releaseHold b).eu = s.eu ∧
    (s.releaseHold b).tb = s.tb ∧ (s.releaseHold b).hp = s.hp ∧ (s.releaseHold b).avdd = s.avdd ∧
    (s.releaseHold b).resetAsserted = s.resetAsserted ∧ (s.releaseHold b).draws = s.draws ∧
    (s.releaseHold b).pending = s.pending ∧ (∀ i, (s.releaseHold b).ring i = s.ring i) ∧
    (∀ i, (s.releaseHold b).bank i = s.bank i) ∧ (∀ i, (s.releaseHold b).cell i = s.cell i) ∧
    (∀ i q, (s.releaseHold b).ref i q = s.ref i q) ∧ (∀ i, (s.releaseHold b).entry i = s.entry i) := by
  unfold State.releaseHold
  split <;> exact ⟨rfl, rfl, rfl, rfl, rfl, rfl, rfl, rfl, rfl, rfl, rfl, rfl, rfl, rfl, rfl, fun _ => rfl, fun _ => rfl, fun _ => rfl, fun _ _ => rfl, fun _ => rfl⟩

@[simp] theorem State.startReferenceWindow_frame (s : State) (b : Bank) :
    (s.startReferenceWindow b).cu = s.cu ∧ (s.startReferenceWindow b).rings = s.rings ∧
    (s.startReferenceWindow b).fu = s.fu ∧ (s.startReferenceWindow b).banks = s.banks ∧
    (s.startReferenceWindow b).refs = s.refs ∧ (s.startReferenceWindow b).sched = s.sched ∧
    (s.startReferenceWindow b).cw = s.cw ∧ (s.startReferenceWindow b).eu = s.eu ∧
    (s.startReferenceWindow b).tb = s.tb ∧ (s.startReferenceWindow b).hp = s.hp ∧
    (s.startReferenceWindow b).avdd = s.avdd ∧ (s.startReferenceWindow b).resetAsserted = s.resetAsserted ∧
    (s.startReferenceWindow b).draws = s.draws ∧ (s.startReferenceWindow b).pending = s.pending ∧
    (∀ i, (s.startReferenceWindow b).ring i = s.ring i) ∧ (∀ i, (s.startReferenceWindow b).bank i = s.bank i) ∧
    (∀ i q, (s.startReferenceWindow b).ref i q = s.ref i q) ∧
    (∀ i, (s.startReferenceWindow b).entry i = s.entry i) := by
  simp [State.startReferenceWindow]

@[simp] theorem State.startSampleWindow_frame (s : State) (b : Bank) :
    (s.startSampleWindow b).cu = s.cu ∧ (s.startSampleWindow b).rings = s.rings ∧
    (s.startSampleWindow b).fu = s.fu ∧ (s.startSampleWindow b).banks = s.banks ∧
    (s.startSampleWindow b).refs = s.refs ∧ (s.startSampleWindow b).sched = s.sched ∧
    (s.startSampleWindow b).cw = s.cw ∧ (s.startSampleWindow b).eu = s.eu ∧ (s.startSampleWindow b).tb = s.tb ∧
    (s.startSampleWindow b).hp = s.hp ∧ (s.startSampleWindow b).avdd = s.avdd ∧
    (s.startSampleWindow b).resetAsserted = s.resetAsserted ∧ (s.startSampleWindow b).draws = s.draws ∧
    (s.startSampleWindow b).pending = s.pending ∧ (∀ i, (s.startSampleWindow b).ring i = s.ring i) ∧
    (∀ i, (s.startSampleWindow b).bank i = s.bank i) ∧ (∀ i q, (s.startSampleWindow b).ref i q = s.ref i q) ∧
    (∀ i, (s.startSampleWindow b).entry i = s.entry i) := by
  unfold State.startSampleWindow
  split <;> simp

@[simp] theorem State.claimSkipped_frame (s : State) (c : Source) :
    (s.claimSkipped c).cu = s.cu ∧ (s.claimSkipped c).rings = s.rings ∧ (s.claimSkipped c).fu = s.fu ∧
    (s.claimSkipped c).banks = s.banks ∧ (s.claimSkipped c).cells = s.cells ∧
    (s.claimSkipped c).refs = s.refs ∧ (s.claimSkipped c).sm = s.sm ∧ (s.claimSkipped c).cw = s.cw ∧
    (s.claimSkipped c).eu = s.eu ∧ (s.claimSkipped c).tb = s.tb ∧ (s.claimSkipped c).hp = s.hp ∧
    (s.claimSkipped c).avdd = s.avdd ∧ (s.claimSkipped c).resetAsserted = s.resetAsserted ∧
    (s.claimSkipped c).draws = s.draws ∧ (s.claimSkipped c).pending = s.pending ∧
    (∀ i, (s.claimSkipped c).ring i = s.ring i) ∧ (∀ i, (s.claimSkipped c).bank i = s.bank i) ∧
    (∀ i, (s.claimSkipped c).cell i = s.cell i) ∧ (∀ i q, (s.claimSkipped c).ref i q = s.ref i q) ∧
    (∀ i, (s.claimSkipped c).holder i = s.holder i) := by
  unfold State.claimSkipped
  split <;> simp

@[simp] theorem State.enterPosting_frame (s : State) (b : Bank) (r : Record) :
    (s.enterPosting b r).cu = s.cu ∧ (s.enterPosting b r).rings = s.rings ∧ (s.enterPosting b r).fu = s.fu ∧
    (s.enterPosting b r).cells = s.cells ∧ (s.enterPosting b r).refs = s.refs ∧
    (s.enterPosting b r).sm = s.sm ∧ (s.enterPosting b r).sched = s.sched ∧ (s.enterPosting b r).cw = s.cw ∧
    (s.enterPosting b r).eu = s.eu ∧ (s.enterPosting b r).tb = s.tb ∧ (s.enterPosting b r).hp = s.hp ∧
    (s.enterPosting b r).avdd = s.avdd ∧ (s.enterPosting b r).resetAsserted = s.resetAsserted ∧
    (s.enterPosting b r).draws = s.draws ∧ (s.enterPosting b r).pending = s.pending ∧
    (∀ i, (s.enterPosting b r).ring i = s.ring i) ∧ (∀ i, (s.enterPosting b r).cell i = s.cell i) ∧
    (∀ i q, (s.enterPosting b r).ref i q = s.ref i q) ∧ (∀ i, (s.enterPosting b r).entry i = s.entry i) ∧
    (∀ i, (s.enterPosting b r).holder i = s.holder i) := by
  simp [State.enterPosting]

@[simp] theorem State.formMeasure_frame (s : State) (b : Bank) (st : RecordStatus) (rs : FailureReason) (ch : List ChannelEntry) :
    (s.formMeasure b st rs ch).cu = s.cu ∧ (s.formMeasure b st rs ch).rings = s.rings ∧
    (s.formMeasure b st rs ch).fu = s.fu ∧ (s.formMeasure b st rs ch).cells = s.cells ∧
    (s.formMeasure b st rs ch).refs = s.refs ∧ (s.formMeasure b st rs ch).sm = s.sm ∧
    (s.formMeasure b st rs ch).cw = s.cw ∧ (s.formMeasure b st rs ch).eu = s.eu ∧
    (s.formMeasure b st rs ch).tb = s.tb ∧ (s.formMeasure b st rs ch).hp = s.hp ∧
    (s.formMeasure b st rs ch).avdd = s.avdd ∧ (s.formMeasure b st rs ch).resetAsserted = s.resetAsserted ∧
    (s.formMeasure b st rs ch).draws = s.draws ∧ (s.formMeasure b st rs ch).pending = s.pending ∧
    (∀ i, (s.formMeasure b st rs ch).ring i = s.ring i) ∧ (∀ i, (s.formMeasure b st rs ch).cell i = s.cell i) ∧
    (∀ i q, (s.formMeasure b st rs ch).ref i q = s.ref i q) ∧
    (∀ i, (s.formMeasure b st rs ch).holder i = s.holder i) := by
  unfold State.formMeasure
  split <;> simp

@[simp] theorem State.dropHold_frame (s : State) (b : Bank) :
    (s.dropHold b).cu = s.cu ∧ (s.dropHold b).rings = s.rings ∧ (s.dropHold b).fu = s.fu ∧
    (s.dropHold b).cells = s.cells ∧ (s.dropHold b).refs = s.refs ∧ (s.dropHold b).sched = s.sched ∧
    (s.dropHold b).cw = s.cw ∧ (s.dropHold b).eu = s.eu ∧ (s.dropHold b).tb = s.tb ∧ (s.dropHold b).hp = s.hp ∧
    (s.dropHold b).avdd = s.avdd ∧ (s.dropHold b).resetAsserted = s.resetAsserted ∧
    (s.dropHold b).draws = s.draws ∧ (s.dropHold b).pending = s.pending ∧
    (∀ i, (s.dropHold b).ring i = s.ring i) ∧ (∀ i, (s.dropHold b).cell i = s.cell i) ∧
    (∀ i q, (s.dropHold b).ref i q = s.ref i q) ∧ (∀ i, (s.dropHold b).entry i = s.entry i) := by
  simp [State.dropHold]

@[simp] theorem State.dropLease_frame (s : State) (b : Bank) :
    (s.dropLease b).cu = s.cu ∧ (s.dropLease b).rings = s.rings ∧ (s.dropLease b).fu = s.fu ∧
    (s.dropLease b).cells = s.cells ∧ (s.dropLease b).sm = s.sm ∧ (s.dropLease b).sched = s.sched ∧
    (s.dropLease b).cw = s.cw ∧ (s.dropLease b).eu = s.eu ∧ (s.dropLease b).tb = s.tb ∧
    (s.dropLease b).hp = s.hp ∧ (s.dropLease b).avdd = s.avdd ∧
    (s.dropLease b).resetAsserted = s.resetAsserted ∧ (s.dropLease b).draws = s.draws ∧
    (s.dropLease b).pending = s.pending ∧ (∀ i, (s.dropLease b).ring i = s.ring i) ∧
    (∀ i, (s.dropLease b).cell i = s.cell i) ∧ (∀ i, (s.dropLease b).entry i = s.entry i) ∧
    (∀ i, (s.dropLease b).holder i = s.holder i) := by
  simp [State.dropLease]

@[simp] theorem State.failConversion_frame (s : State) (b : Bank) :
    (s.failConversion b).cu = s.cu ∧ (s.failConversion b).rings = s.rings ∧ (s.failConversion b).fu = s.fu ∧
    (s.failConversion b).banks = s.banks ∧ (s.failConversion b).cells = s.cells ∧
    (s.failConversion b).sm = s.sm ∧ (s.failConversion b).sched = s.sched ∧ (s.failConversion b).cw = s.cw ∧
    (s.failConversion b).eu = s.eu ∧ (s.failConversion b).tb = s.tb ∧ (s.failConversion b).hp = s.hp ∧
    (s.failConversion b).avdd = s.avdd ∧ (s.failConversion b).resetAsserted = s.resetAsserted ∧
    (s.failConversion b).draws = s.draws ∧ (s.failConversion b).pending = s.pending ∧
    (∀ i, (s.failConversion b).ring i = s.ring i) ∧ (∀ i, (s.failConversion b).bank i = s.bank i) ∧
    (∀ i, (s.failConversion b).cell i = s.cell i) ∧ (∀ i, (s.failConversion b).entry i = s.entry i) ∧
    (∀ i, (s.failConversion b).holder i = s.holder i) := by
  simp [State.failConversion]

@[simp] theorem State.endFailed_frame (s : State) (b : Bank) (rs : FailureReason) :
    (s.endFailed b rs).cu = s.cu ∧ (s.endFailed b rs).rings = s.rings ∧ (s.endFailed b rs).fu = s.fu ∧
    (s.endFailed b rs).cells = s.cells ∧ (s.endFailed b rs).cw = s.cw ∧ (s.endFailed b rs).eu = s.eu ∧
    (s.endFailed b rs).tb = s.tb ∧ (s.endFailed b rs).hp = s.hp ∧ (s.endFailed b rs).avdd = s.avdd ∧
    (s.endFailed b rs).resetAsserted = s.resetAsserted ∧ (s.endFailed b rs).draws = s.draws ∧
    (s.endFailed b rs).pending = s.pending ∧ (∀ i, (s.endFailed b rs).ring i = s.ring i) ∧
    (∀ i, (s.endFailed b rs).cell i = s.cell i) := by
  simp [State.endFailed]

@[simp] theorem State.endMeasure_frame (s : State) (b : Bank) :
    (s.endMeasure b).cu = s.cu ∧ (s.endMeasure b).rings = s.rings ∧ (s.endMeasure b).fu = s.fu ∧
    (s.endMeasure b).cells = s.cells ∧ (s.endMeasure b).cw = s.cw ∧ (s.endMeasure b).eu = s.eu ∧
    (s.endMeasure b).tb = s.tb ∧ (s.endMeasure b).hp = s.hp ∧ (s.endMeasure b).avdd = s.avdd ∧
    (s.endMeasure b).resetAsserted = s.resetAsserted ∧ (s.endMeasure b).draws = s.draws ∧
    (s.endMeasure b).pending = s.pending ∧ (∀ i, (s.endMeasure b).ring i = s.ring i) ∧
    (∀ i, (s.endMeasure b).cell i = s.cell i) := by
  simp [State.endMeasure]

@[simp] theorem State.finish_frame (s : State) (b : Bank) (k : MeasureEnd) :
    (s.finish b k).cu = s.cu ∧ (s.finish b k).rings = s.rings ∧ (s.finish b k).fu = s.fu ∧
    (s.finish b k).cells = s.cells ∧ (s.finish b k).cw = s.cw ∧ (s.finish b k).eu = s.eu ∧
    (s.finish b k).tb = s.tb ∧ (s.finish b k).hp = s.hp ∧ (s.finish b k).avdd = s.avdd ∧
    (s.finish b k).resetAsserted = s.resetAsserted ∧ (s.finish b k).draws = s.draws ∧
    (s.finish b k).pending = s.pending ∧ (∀ i, (s.finish b k).ring i = s.ring i) ∧
    (∀ i, (s.finish b k).cell i = s.cell i) := by
  cases k <;> simp [State.finish]

@[simp] theorem State.sendEnd_frame (s : State) (b : Bank) (k : MeasureEnd) :
    (s.sendEnd b k).cu = s.cu ∧ (s.sendEnd b k).rings = s.rings ∧ (s.sendEnd b k).fu = s.fu ∧
    (s.sendEnd b k).cells = s.cells ∧ (s.sendEnd b k).cw = s.cw ∧ (s.sendEnd b k).eu = s.eu ∧
    (s.sendEnd b k).tb = s.tb ∧ (s.sendEnd b k).hp = s.hp ∧ (s.sendEnd b k).avdd = s.avdd ∧
    (s.sendEnd b k).resetAsserted = s.resetAsserted ∧ (s.sendEnd b k).pending = s.pending ∧
    (∀ i, (s.sendEnd b k).ring i = s.ring i) ∧ (∀ i, (s.sendEnd b k).cell i = s.cell i) := by
  unfold State.sendEnd
  dsimp only
  split <;> simp [State.ring, State.cell]

@[simp] theorem State.deliverEnd_frame (s : State) (b : Bank) :
    (s.deliverEnd b).cu = s.cu ∧ (s.deliverEnd b).rings = s.rings ∧ (s.deliverEnd b).fu = s.fu ∧
    (s.deliverEnd b).cells = s.cells ∧ (s.deliverEnd b).cw = s.cw ∧ (s.deliverEnd b).eu = s.eu ∧
    (s.deliverEnd b).tb = s.tb ∧ (s.deliverEnd b).hp = s.hp ∧ (s.deliverEnd b).avdd = s.avdd ∧
    (s.deliverEnd b).resetAsserted = s.resetAsserted ∧ (s.deliverEnd b).draws = s.draws ∧
    (s.deliverEnd b).pending = s.pending ∧ (∀ i, (s.deliverEnd b).ring i = s.ring i) ∧
    (∀ i, (s.deliverEnd b).cell i = s.cell i) := by
  unfold State.deliverEnd
  split <;> simp

@[simp] theorem State.beginEntry_frame (s : State) (b : Bank) (k : Nat) :
    (s.beginEntry b k).cu = s.cu ∧ (s.beginEntry b k).rings = s.rings ∧ (s.beginEntry b k).fu = s.fu ∧
    (s.beginEntry b k).refs = s.refs ∧ (s.beginEntry b k).sched = s.sched ∧ (s.beginEntry b k).cw = s.cw ∧
    (s.beginEntry b k).eu = s.eu ∧ (s.beginEntry b k).tb = s.tb ∧ (s.beginEntry b k).hp = s.hp ∧
    (s.beginEntry b k).avdd = s.avdd ∧ (s.beginEntry b k).resetAsserted = s.resetAsserted ∧
    (s.beginEntry b k).draws = s.draws ∧ (s.beginEntry b k).pending = s.pending ∧
    (∀ i, (s.beginEntry b k).ring i = s.ring i) ∧ (∀ i q, (s.beginEntry b k).ref i q = s.ref i q) ∧
    (∀ i, (s.beginEntry b k).entry i = s.entry i) := by
  simp [State.beginEntry]

@[simp] theorem State.takeSample_frame (s : State) (b : Bank) (o : Outcome) :
    (s.takeSample b o).cu = s.cu ∧ (s.takeSample b o).rings = s.rings ∧ (s.takeSample b o).fu = s.fu ∧
    (s.takeSample b o).cw = s.cw ∧ (s.takeSample b o).eu = s.eu ∧ (s.takeSample b o).tb = s.tb ∧
    (s.takeSample b o).hp = s.hp ∧ (s.takeSample b o).avdd = s.avdd ∧
    (s.takeSample b o).resetAsserted = s.resetAsserted ∧
    (s.takeSample b o).pending = s.pending ∧ (∀ i, (s.takeSample b o).ring i = s.ring i) := by
  unfold State.takeSample
  dsimp only
  repeat' split
  all_goals simp

@[simp] theorem State.gainLease_frame (s : State) (b : Bank) (e : RefEntry) :
    (s.gainLease b e).cu = s.cu ∧ (s.gainLease b e).rings = s.rings ∧ (s.gainLease b e).fu = s.fu ∧
    (s.gainLease b e).refs = s.refs ∧ (s.gainLease b e).sched = s.sched ∧ (s.gainLease b e).cw = s.cw ∧
    (s.gainLease b e).eu = s.eu ∧ (s.gainLease b e).tb = s.tb ∧ (s.gainLease b e).hp = s.hp ∧
    (s.gainLease b e).avdd = s.avdd ∧ (s.gainLease b e).resetAsserted = s.resetAsserted ∧
    (s.gainLease b e).draws = s.draws ∧ (s.gainLease b e).pending = s.pending ∧
    (∀ i, (s.gainLease b e).ring i = s.ring i) ∧ (∀ i q, (s.gainLease b e).ref i q = s.ref i q) ∧
    (∀ i, (s.gainLease b e).entry i = s.entry i) := by
  simp [State.gainLease]

@[simp] theorem State.requestLease_frame (s : State) (b : Bank) :
    (s.requestLease b).cu = s.cu ∧ (s.requestLease b).rings = s.rings ∧ (s.requestLease b).fu = s.fu ∧
    (s.requestLease b).sched = s.sched ∧ (s.requestLease b).cw = s.cw ∧ (s.requestLease b).eu = s.eu ∧
    (s.requestLease b).tb = s.tb ∧ (s.requestLease b).hp = s.hp ∧ (s.requestLease b).avdd = s.avdd ∧
    (s.requestLease b).resetAsserted = s.resetAsserted ∧ (s.requestLease b).draws = s.draws ∧
    (s.requestLease b).pending = s.pending ∧ (∀ i, (s.requestLease b).ring i = s.ring i) ∧
    (∀ i, (s.requestLease b).entry i = s.entry i) := by
  unfold State.requestLease
  dsimp only
  split <;> simp

@[simp] theorem State.takeGrant_frame (s : State) (b : Bank) :
    (s.takeGrant b).cu = s.cu ∧ (s.takeGrant b).rings = s.rings ∧ (s.takeGrant b).fu = s.fu ∧
    (s.takeGrant b).sched = s.sched ∧ (s.takeGrant b).cw = s.cw ∧ (s.takeGrant b).eu = s.eu ∧
    (s.takeGrant b).tb = s.tb ∧ (s.takeGrant b).hp = s.hp ∧ (s.takeGrant b).avdd = s.avdd ∧
    (s.takeGrant b).resetAsserted = s.resetAsserted ∧ (s.takeGrant b).draws = s.draws ∧
    (s.takeGrant b).pending = s.pending ∧ (∀ i, (s.takeGrant b).ring i = s.ring i) ∧
    (∀ i, (s.takeGrant b).entry i = s.entry i) := by
  unfold State.takeGrant
  split <;> simp

@[simp] theorem State.sendGrant_frame (s : State) (b : Bank) :
    (s.sendGrant b).cu = s.cu ∧ (s.sendGrant b).rings = s.rings ∧ (s.sendGrant b).fu = s.fu ∧
    (s.sendGrant b).sched = s.sched ∧ (s.sendGrant b).cw = s.cw ∧ (s.sendGrant b).eu = s.eu ∧
    (s.sendGrant b).tb = s.tb ∧ (s.sendGrant b).hp = s.hp ∧ (s.sendGrant b).avdd = s.avdd ∧
    (s.sendGrant b).resetAsserted = s.resetAsserted ∧ (s.sendGrant b).pending = s.pending ∧
    (∀ i, (s.sendGrant b).ring i = s.ring i) ∧ (∀ i, (s.sendGrant b).entry i = s.entry i) := by
  unfold State.sendGrant
  dsimp only
  split <;> simp [State.ring, State.entry]

@[simp] theorem State.grantHolder_frame (s : State) (b : Bank) :
    (s.grantHolder b).cu = s.cu ∧ (s.grantHolder b).rings = s.rings ∧ (s.grantHolder b).fu = s.fu ∧
    (s.grantHolder b).sched = s.sched ∧ (s.grantHolder b).cw = s.cw ∧ (s.grantHolder b).eu = s.eu ∧
    (s.grantHolder b).tb = s.tb ∧ (s.grantHolder b).hp = s.hp ∧ (s.grantHolder b).avdd = s.avdd ∧
    (s.grantHolder b).resetAsserted = s.resetAsserted ∧ (s.grantHolder b).pending = s.pending ∧
    (∀ i, (s.grantHolder b).ring i = s.ring i) ∧ (∀ i, (s.grantHolder b).entry i = s.entry i) := by
  unfold State.grantHolder
  split <;> simp

@[simp] theorem State.addHolder_frame (s : State) (b : Bank) :
    (s.addHolder b).cu = s.cu ∧ (s.addHolder b).rings = s.rings ∧ (s.addHolder b).fu = s.fu ∧
    (s.addHolder b).sched = s.sched ∧ (s.addHolder b).cw = s.cw ∧ (s.addHolder b).eu = s.eu ∧
    (s.addHolder b).tb = s.tb ∧ (s.addHolder b).hp = s.hp ∧ (s.addHolder b).avdd = s.avdd ∧
    (s.addHolder b).resetAsserted = s.resetAsserted ∧ (s.addHolder b).pending = s.pending ∧
    (∀ i, (s.addHolder b).ring i = s.ring i) ∧ (∀ i, (s.addHolder b).entry i = s.entry i) := by
  unfold State.addHolder
  repeat' split
  all_goals simp [State.ring, State.entry]

@[simp] theorem State.requestHold_frame (s : State) (b : Bank) :
    (s.requestHold b).cu = s.cu ∧ (s.requestHold b).rings = s.rings ∧ (s.requestHold b).fu = s.fu ∧
    (s.requestHold b).sched = s.sched ∧ (s.requestHold b).cw = s.cw ∧ (s.requestHold b).eu = s.eu ∧
    (s.requestHold b).tb = s.tb ∧ (s.requestHold b).hp = s.hp ∧ (s.requestHold b).avdd = s.avdd ∧
    (s.requestHold b).resetAsserted = s.resetAsserted ∧ (s.requestHold b).pending = s.pending ∧
    (∀ i, (s.requestHold b).ring i = s.ring i) ∧ (∀ i, (s.requestHold b).entry i = s.entry i) := by
  simp [State.requestHold]

@[simp] theorem State.takeHead_frame (s : State) (b : Bank) :
    (s.takeHead b).cu = s.cu ∧ (s.takeHead b).rings = s.rings ∧ (s.takeHead b).fu = s.fu ∧
    (s.takeHead b).cw = s.cw ∧ (s.takeHead b).eu = s.eu ∧ (s.takeHead b).tb = s.tb ∧ (s.takeHead b).hp = s.hp ∧
    (s.takeHead b).avdd = s.avdd ∧ (s.takeHead b).resetAsserted = s.resetAsserted ∧
    (s.takeHead b).pending = s.pending ∧ (∀ i, (s.takeHead b).ring i = s.ring i) := by
  unfold State.takeHead
  dsimp only
  repeat' split
  all_goals simp

@[simp] theorem State.sequencerPosted_frame (s : State) (b : Bank) :
    (s.sequencerPosted b).cu = s.cu ∧ (s.sequencerPosted b).rings = s.rings ∧ (s.sequencerPosted b).fu = s.fu ∧
    (s.sequencerPosted b).cw = s.cw ∧ (s.sequencerPosted b).eu = s.eu ∧ (s.sequencerPosted b).tb = s.tb ∧
    (s.sequencerPosted b).hp = s.hp ∧ (s.sequencerPosted b).avdd = s.avdd ∧
    (s.sequencerPosted b).resetAsserted = s.resetAsserted ∧ (s.sequencerPosted b).pending = s.pending ∧
    (∀ i, (s.sequencerPosted b).ring i = s.ring i) := by
  unfold State.sequencerPosted
  dsimp only
  split <;> simp

@[simp] theorem State.takeRefDone_frame (s : State) (b : Bank) (g : BitVec 24) :
    (s.takeRefDone b g).cu = s.cu ∧ (s.takeRefDone b g).rings = s.rings ∧ (s.takeRefDone b g).fu = s.fu ∧
    (s.takeRefDone b g).cw = s.cw ∧ (s.takeRefDone b g).eu = s.eu ∧ (s.takeRefDone b g).tb = s.tb ∧
    (s.takeRefDone b g).hp = s.hp ∧ (s.takeRefDone b g).avdd = s.avdd ∧
    (s.takeRefDone b g).resetAsserted = s.resetAsserted ∧
    (s.takeRefDone b g).pending = s.pending ∧ (∀ i, (s.takeRefDone b g).ring i = s.ring i) := by
  unfold State.takeRefDone
  repeat' split
  all_goals simp

@[simp] theorem State.takeRefTimeout_frame (s : State) (b : Bank) :
    (s.takeRefTimeout b).cu = s.cu ∧ (s.takeRefTimeout b).rings = s.rings ∧ (s.takeRefTimeout b).fu = s.fu ∧
    (s.takeRefTimeout b).cells = s.cells ∧ (s.takeRefTimeout b).cw = s.cw ∧ (s.takeRefTimeout b).eu = s.eu ∧
    (s.takeRefTimeout b).tb = s.tb ∧ (s.takeRefTimeout b).hp = s.hp ∧ (s.takeRefTimeout b).avdd = s.avdd ∧
    (s.takeRefTimeout b).resetAsserted = s.resetAsserted ∧
    (s.takeRefTimeout b).pending = s.pending ∧ (∀ i, (s.takeRefTimeout b).ring i = s.ring i) ∧
    (∀ i, (s.takeRefTimeout b).cell i = s.cell i) := by
  simp [State.takeRefTimeout]

@[simp] theorem State.takeOutcome_frame (s : State) (b : Bank) (o : Outcome) :
    (s.takeOutcome b o).cu = s.cu ∧ (s.takeOutcome b o).rings = s.rings ∧ (s.takeOutcome b o).fu = s.fu ∧
    (s.takeOutcome b o).cw = s.cw ∧ (s.takeOutcome b o).eu = s.eu ∧ (s.takeOutcome b o).tb = s.tb ∧
    (s.takeOutcome b o).hp = s.hp ∧ (s.takeOutcome b o).avdd = s.avdd ∧
    (s.takeOutcome b o).resetAsserted = s.resetAsserted ∧
    (s.takeOutcome b o).pending = s.pending ∧ (∀ i, (s.takeOutcome b o).ring i = s.ring i) := by
  unfold State.takeOutcome
  split
  · cases o <;> simp
  · cases o <;> simp
  all_goals simp

@[simp] theorem State.endWindowWith_frame (s : State) (b : Bank) (c : Cell) (o : Outcome) :
    (s.endWindowWith b c o).cu = s.cu ∧ (s.endWindowWith b c o).rings = s.rings ∧
    (s.endWindowWith b c o).fu = s.fu ∧ (s.endWindowWith b c o).cw = s.cw ∧ (s.endWindowWith b c o).eu = s.eu ∧
    (s.endWindowWith b c o).tb = s.tb ∧ (s.endWindowWith b c o).hp = s.hp ∧
    (s.endWindowWith b c o).avdd = s.avdd ∧ (s.endWindowWith b c o).resetAsserted = s.resetAsserted ∧
    (s.endWindowWith b c o).pending = s.pending ∧
    (∀ i, (s.endWindowWith b c o).ring i = s.ring i) := by
  simp [State.endWindowWith]

@[simp] theorem State.settleExpiry_frame (s : State) (b : Bank) :
    (s.settleExpiry b).cu = s.cu ∧ (s.settleExpiry b).rings = s.rings ∧ (s.settleExpiry b).fu = s.fu ∧
    (s.settleExpiry b).banks = s.banks ∧ (s.settleExpiry b).refs = s.refs ∧ (s.settleExpiry b).sm = s.sm ∧
    (s.settleExpiry b).sched = s.sched ∧ (s.settleExpiry b).cw = s.cw ∧ (s.settleExpiry b).eu = s.eu ∧
    (s.settleExpiry b).tb = s.tb ∧ (s.settleExpiry b).hp = s.hp ∧ (s.settleExpiry b).avdd = s.avdd ∧
    (s.settleExpiry b).resetAsserted = s.resetAsserted ∧ (s.settleExpiry b).draws = s.draws ∧
    (s.settleExpiry b).pending = s.pending ∧ (∀ i, (s.settleExpiry b).ring i = s.ring i) ∧
    (∀ i, (s.settleExpiry b).bank i = s.bank i) ∧ (∀ i q, (s.settleExpiry b).ref i q = s.ref i q) ∧
    (∀ i, (s.settleExpiry b).entry i = s.entry i) ∧ (∀ i, (s.settleExpiry b).holder i = s.holder i) := by
  unfold State.settleExpiry
  split <;> simp

@[simp] theorem State.startTimeoutExpiry_frame (s : State) (b : Bank) :
    (s.startTimeoutExpiry b).cu = s.cu ∧ (s.startTimeoutExpiry b).rings = s.rings ∧
    (s.startTimeoutExpiry b).fu = s.fu ∧ (s.startTimeoutExpiry b).cw = s.cw ∧
    (s.startTimeoutExpiry b).eu = s.eu ∧ (s.startTimeoutExpiry b).tb = s.tb ∧
    (s.startTimeoutExpiry b).hp = s.hp ∧ (s.startTimeoutExpiry b).avdd = s.avdd ∧
    (s.startTimeoutExpiry b).resetAsserted = s.resetAsserted ∧
    (s.startTimeoutExpiry b).pending = s.pending ∧ (∀ i, (s.startTimeoutExpiry b).ring i = s.ring i) := by
  unfold State.startTimeoutExpiry
  split <;> simp

@[simp] theorem State.refWindowTimeout_frame (s : State) (b : Bank) :
    (s.refWindowTimeout b).cu = s.cu ∧ (s.refWindowTimeout b).rings = s.rings ∧
    (s.refWindowTimeout b).fu = s.fu ∧ (s.refWindowTimeout b).cw = s.cw ∧ (s.refWindowTimeout b).eu = s.eu ∧
    (s.refWindowTimeout b).tb = s.tb ∧ (s.refWindowTimeout b).hp = s.hp ∧
    (s.refWindowTimeout b).avdd = s.avdd ∧ (s.refWindowTimeout b).resetAsserted = s.resetAsserted ∧
    (s.refWindowTimeout b).pending = s.pending ∧
    (∀ i, (s.refWindowTimeout b).ring i = s.ring i) := by
  unfold State.refWindowTimeout
  split <;> simp

@[simp] theorem State.senseClose_frame (s : State) (b : Bank) :
    (s.senseClose b).cu = s.cu ∧ (s.senseClose b).rings = s.rings ∧ (s.senseClose b).fu = s.fu ∧
    (s.senseClose b).cw = s.cw ∧ (s.senseClose b).eu = s.eu ∧ (s.senseClose b).tb = s.tb ∧
    (s.senseClose b).hp = s.hp ∧ (s.senseClose b).avdd = s.avdd ∧
    (s.senseClose b).resetAsserted = s.resetAsserted ∧
    (s.senseClose b).pending = s.pending ∧ (∀ i, (s.senseClose b).ring i = s.ring i) := by
  unfold State.senseClose
  split <;> simp

@[simp] theorem State.takeFirstEdge_frame (s : State) (b : Bank) :
    (s.takeFirstEdge b).cu = s.cu ∧ (s.takeFirstEdge b).rings = s.rings ∧ (s.takeFirstEdge b).fu = s.fu ∧
    (s.takeFirstEdge b).cw = s.cw ∧ (s.takeFirstEdge b).eu = s.eu ∧ (s.takeFirstEdge b).tb = s.tb ∧
    (s.takeFirstEdge b).hp = s.hp ∧ (s.takeFirstEdge b).avdd = s.avdd ∧
    (s.takeFirstEdge b).resetAsserted = s.resetAsserted ∧
    (s.takeFirstEdge b).pending = s.pending ∧ (∀ i, (s.takeFirstEdge b).ring i = s.ring i) := by
  unfold State.takeFirstEdge
  split <;> simp

@[simp] theorem State.dueAtCell_frame (s : State) (b : Bank) :
    (s.dueAtCell b).cu = s.cu ∧ (s.dueAtCell b).rings = s.rings ∧ (s.dueAtCell b).fu = s.fu ∧
    (s.dueAtCell b).cw = s.cw ∧ (s.dueAtCell b).eu = s.eu ∧ (s.dueAtCell b).tb = s.tb ∧
    (s.dueAtCell b).hp = s.hp ∧ (s.dueAtCell b).avdd = s.avdd ∧
    (s.dueAtCell b).resetAsserted = s.resetAsserted ∧
    (s.dueAtCell b).pending = s.pending ∧ (∀ i, (s.dueAtCell b).ring i = s.ring i) := by
  unfold State.dueAtCell
  split <;> simp

@[simp] theorem State.grantAtSettleEnd_frame (s : State) (b : Bank) :
    (s.grantAtSettleEnd b).cu = s.cu ∧ (s.grantAtSettleEnd b).rings = s.rings ∧
    (s.grantAtSettleEnd b).fu = s.fu ∧ (s.grantAtSettleEnd b).sched = s.sched ∧
    (s.grantAtSettleEnd b).cw = s.cw ∧ (s.grantAtSettleEnd b).eu = s.eu ∧ (s.grantAtSettleEnd b).tb = s.tb ∧
    (s.grantAtSettleEnd b).hp = s.hp ∧ (s.grantAtSettleEnd b).avdd = s.avdd ∧
    (s.grantAtSettleEnd b).resetAsserted = s.resetAsserted ∧ (s.grantAtSettleEnd b).pending = s.pending ∧
    (∀ i, (s.grantAtSettleEnd b).ring i = s.ring i) ∧ (∀ i, (s.grantAtSettleEnd b).entry i = s.entry i) := by
  unfold State.grantAtSettleEnd
  repeat' split
  all_goals simp

@[simp] theorem State.raiseIf_frame (s : State) (p : Bool) (c : Cause) :
    (s.raiseIf p c).cu = s.cu ∧ (s.raiseIf p c).rings = s.rings ∧ (s.raiseIf p c).fu = s.fu ∧
    (s.raiseIf p c).banks = s.banks ∧ (s.raiseIf p c).cells = s.cells ∧ (s.raiseIf p c).refs = s.refs ∧
    (s.raiseIf p c).sm = s.sm ∧ (s.raiseIf p c).sched = s.sched ∧ (s.raiseIf p c).cw = s.cw ∧
    (s.raiseIf p c).tb = s.tb ∧ (s.raiseIf p c).hp = s.hp ∧ (s.raiseIf p c).avdd = s.avdd ∧
    (s.raiseIf p c).resetAsserted = s.resetAsserted ∧ (s.raiseIf p c).draws = s.draws ∧
    (s.raiseIf p c).pending = s.pending ∧ (∀ i, (s.raiseIf p c).ring i = s.ring i) ∧
    (∀ i, (s.raiseIf p c).bank i = s.bank i) ∧ (∀ i, (s.raiseIf p c).cell i = s.cell i) ∧
    (∀ i q, (s.raiseIf p c).ref i q = s.ref i q) ∧ (∀ i, (s.raiseIf p c).entry i = s.entry i) ∧
    (∀ i, (s.raiseIf p c).holder i = s.holder i) := by
  unfold State.raiseIf
  split <;> simp

@[simp] theorem State.supplySettleEnd_frame (s : State) :
    (s.supplySettleEnd).cu = s.cu ∧ (s.supplySettleEnd).rings = s.rings ∧ (s.supplySettleEnd).fu = s.fu ∧
    (s.supplySettleEnd).sched = s.sched ∧ (s.supplySettleEnd).cw = s.cw ∧ (s.supplySettleEnd).tb = s.tb ∧
    (s.supplySettleEnd).hp = s.hp ∧ (s.supplySettleEnd).avdd = s.avdd ∧
    (s.supplySettleEnd).resetAsserted = s.resetAsserted ∧ (s.supplySettleEnd).pending = s.pending ∧
    (∀ i, (s.supplySettleEnd).ring i = s.ring i) ∧ (∀ i, (s.supplySettleEnd).entry i = s.entry i) := by
  unfold State.supplySettleEnd
  split
  · have h {β : Type} (g : State → β) (hg : ∀ s a, g (State.grantAtSettleEnd s a) = g s) :=
      foldl_keeps g State.grantAtSettleEnd hg (List.finRange 4)
    have h_cu := h State.cu (by simp)
    have h_rings := h State.rings (by simp)
    have h_fu := h State.fu (by simp)
    have h_sched := h State.sched (by simp)
    have h_cw := h State.cw (by simp)
    have h_tb := h State.tb (by simp)
    have h_hp := h State.hp (by simp)
    have h_avdd := h State.avdd (by simp)
    have h_resetAsserted := h State.resetAsserted (by simp)
    have h_pending := h State.pending (by simp)
    simp [h_cu, h_rings, h_fu, h_sched, h_cw, h_tb, h_hp, h_avdd, h_resetAsserted, h_pending, State.ring, State.entry]
  · simp

@[simp] theorem State.deliverGrant_frame (s : State) (b : Bank) :
    (s.deliverGrant b).cu = s.cu ∧ (s.deliverGrant b).rings = s.rings ∧ (s.deliverGrant b).fu = s.fu ∧
    (s.deliverGrant b).sched = s.sched ∧ (s.deliverGrant b).cw = s.cw ∧ (s.deliverGrant b).eu = s.eu ∧
    (s.deliverGrant b).tb = s.tb ∧ (s.deliverGrant b).hp = s.hp ∧ (s.deliverGrant b).avdd = s.avdd ∧
    (s.deliverGrant b).resetAsserted = s.resetAsserted ∧ (s.deliverGrant b).pending = s.pending ∧
    (∀ i, (s.deliverGrant b).ring i = s.ring i) ∧ (∀ i, (s.deliverGrant b).entry i = s.entry i) := by
  unfold State.deliverGrant
  split <;> simp

@[simp] theorem State.deliverBank_frame (s : State) (b : Bank) :
    (s.deliverBank b).cu = s.cu ∧ (s.deliverBank b).rings = s.rings ∧ (s.deliverBank b).fu = s.fu ∧
    (s.deliverBank b).cw = s.cw ∧ (s.deliverBank b).eu = s.eu ∧
    (s.deliverBank b).tb = s.tb ∧ (s.deliverBank b).hp = s.hp ∧ (s.deliverBank b).avdd = s.avdd ∧
    (s.deliverBank b).resetAsserted = s.resetAsserted ∧ (s.deliverBank b).pending = s.pending ∧
    (∀ i, (s.deliverBank b).ring i = s.ring i) := by
  simp [State.deliverBank]

@[simp] theorem State.deliverSome_frame (s : State) (b : Bank) :
    (s.deliverSome b).cu = s.cu ∧ (s.deliverSome b).rings = s.rings ∧ (s.deliverSome b).fu = s.fu ∧
    (s.deliverSome b).cw = s.cw ∧ (s.deliverSome b).eu = s.eu ∧
    (s.deliverSome b).tb = s.tb ∧ (s.deliverSome b).hp = s.hp ∧ (s.deliverSome b).avdd = s.avdd ∧
    (s.deliverSome b).resetAsserted = s.resetAsserted ∧ (s.deliverSome b).pending = s.pending ∧
    (∀ i, (s.deliverSome b).ring i = s.ring i) := by
  unfold State.deliverSome
  dsimp only
  repeat' split
  all_goals simp [State.ring, State.entry]

@[simp] theorem State.deliverAll_frame (s : State) :
    (s.deliverAll).cu = s.cu ∧ (s.deliverAll).rings = s.rings ∧ (s.deliverAll).fu = s.fu ∧
    (s.deliverAll).cw = s.cw ∧ (s.deliverAll).eu = s.eu ∧
    (s.deliverAll).tb = s.tb ∧ (s.deliverAll).hp = s.hp ∧ (s.deliverAll).avdd = s.avdd ∧
    (s.deliverAll).resetAsserted = s.resetAsserted ∧ (s.deliverAll).pending = s.pending ∧
    (∀ i, (s.deliverAll).ring i = s.ring i) := by
  have h {β : Type} (g : State → β) (hg : ∀ s a, g (State.deliverBank s a) = g s) :=
    foldl_keeps g State.deliverBank hg (List.finRange 4)
  exact ⟨h State.cu (by simp) s, h State.rings (by simp) s, h State.fu (by simp) s, h State.cw (by simp) s, h State.eu (by simp) s, h State.tb (by simp) s, h State.hp (by simp) s, h State.avdd (by simp) s,
    h State.resetAsserted (by simp) s, h State.pending (by simp) s,
    fun i => congrArg (fun v : Vector SubRing 4 => v[i]) (h State.rings (by simp) s)⟩

@[simp] theorem State.expire_frame (s : State) (e : Entry) :
    (s.expire e).cu = s.cu ∧ (s.expire e).rings = s.rings ∧ (s.expire e).fu = s.fu ∧
    (s.expire e).banks = s.banks ∧ (s.expire e).cells = s.cells ∧ (s.expire e).refs = s.refs ∧
    (s.expire e).sm = s.sm ∧ (s.expire e).cw = s.cw ∧ (s.expire e).tb = s.tb ∧ (s.expire e).hp = s.hp ∧
    (s.expire e).avdd = s.avdd ∧ (s.expire e).resetAsserted = s.resetAsserted ∧ (s.expire e).draws = s.draws ∧
    (s.expire e).pending = s.pending ∧ (∀ i, (s.expire e).ring i = s.ring i) ∧
    (∀ i, (s.expire e).bank i = s.bank i) ∧ (∀ i, (s.expire e).cell i = s.cell i) ∧
    (∀ i q, (s.expire e).ref i q = s.ref i q) ∧ (∀ i, (s.expire e).holder i = s.holder i) := by
  unfold State.expire
  dsimp only
  split <;> simp

@[simp] theorem State.dueAtEntry_frame (s : State) (e : Entry) :
    (s.dueAtEntry e).cu = s.cu ∧ (s.dueAtEntry e).rings = s.rings ∧ (s.dueAtEntry e).fu = s.fu ∧
    (s.dueAtEntry e).banks = s.banks ∧ (s.dueAtEntry e).cells = s.cells ∧ (s.dueAtEntry e).refs = s.refs ∧
    (s.dueAtEntry e).sm = s.sm ∧ (s.dueAtEntry e).cw = s.cw ∧ (s.dueAtEntry e).tb = s.tb ∧
    (s.dueAtEntry e).hp = s.hp ∧ (s.dueAtEntry e).avdd = s.avdd ∧
    (s.dueAtEntry e).resetAsserted = s.resetAsserted ∧ (s.dueAtEntry e).draws = s.draws ∧
    (s.dueAtEntry e).pending = s.pending ∧ (∀ i, (s.dueAtEntry e).ring i = s.ring i) ∧
    (∀ i, (s.dueAtEntry e).bank i = s.bank i) ∧ (∀ i, (s.dueAtEntry e).cell i = s.cell i) ∧
    (∀ i q, (s.dueAtEntry e).ref i q = s.ref i q) ∧ (∀ i, (s.dueAtEntry e).holder i = s.holder i) := by
  unfold State.dueAtEntry
  split <;> simp

@[simp] theorem State.takeDue_frame (s : State) :
    (s.takeDue).cu = s.cu ∧ (s.takeDue).rings = s.rings ∧ (s.takeDue).fu = s.fu ∧ (s.takeDue).cw = s.cw ∧
    (s.takeDue).tb = s.tb ∧ (s.takeDue).hp = s.hp ∧ (s.takeDue).avdd = s.avdd ∧
    (s.takeDue).resetAsserted = s.resetAsserted ∧ (s.takeDue).pending = s.pending ∧
    (∀ i, (s.takeDue).ring i = s.ring i) := by
  unfold State.takeDue
  have h {β : Type} (g : State → β) (hg : ∀ s a, g (State.dueAtEntry s a) = g s) :=
    foldl_keeps g State.dueAtEntry hg (List.finRange 8)
  have k {β : Type} (g : State → β) (hg : ∀ s a, g (State.dueAtCell s a) = g s) :=
    foldl_keeps g State.dueAtCell hg (List.finRange 4)
  have h_cu := h State.cu (by simp)
  have k_cu := k State.cu (by simp)
  have h_rings := h State.rings (by simp)
  have k_rings := k State.rings (by simp)
  have h_fu := h State.fu (by simp)
  have k_fu := k State.fu (by simp)
  have h_cw := h State.cw (by simp)
  have k_cw := k State.cw (by simp)
  have h_tb := h State.tb (by simp)
  have k_tb := k State.tb (by simp)
  have h_hp := h State.hp (by simp)
  have k_hp := k State.hp (by simp)
  have h_avdd := h State.avdd (by simp)
  have k_avdd := k State.avdd (by simp)
  have h_resetAsserted := h State.resetAsserted (by simp)
  have k_resetAsserted := k State.resetAsserted (by simp)
  have h_pending := h State.pending (by simp)
  have k_pending := k State.pending (by simp)
  simp [h_cu, k_cu, h_rings, k_rings, h_fu, k_fu, h_cw, k_cw, h_tb, k_tb, h_hp, k_hp, h_avdd, k_avdd, h_resetAsserted, k_resetAsserted, h_pending, k_pending, State.ring]

@[simp] theorem State.tickCells_frame (s : State) :
    (s.tickCells).cu = s.cu ∧ (s.tickCells).rings = s.rings ∧ (s.tickCells).fu = s.fu ∧
    (s.tickCells).banks = s.banks ∧ (s.tickCells).refs = s.refs ∧ (s.tickCells).sm = s.sm ∧
    (s.tickCells).sched = s.sched ∧ (s.tickCells).cw = s.cw ∧ (s.tickCells).eu = s.eu ∧
    (s.tickCells).tb = s.tb ∧ (s.tickCells).hp = s.hp ∧ (s.tickCells).avdd = s.avdd ∧
    (s.tickCells).resetAsserted = s.resetAsserted ∧ (s.tickCells).draws = s.draws ∧
    (s.tickCells).pending = s.pending ∧ (∀ i, (s.tickCells).ring i = s.ring i) ∧
    (∀ i, (s.tickCells).bank i = s.bank i) ∧ (∀ i q, (s.tickCells).ref i q = s.ref i q) ∧
    (∀ i, (s.tickCells).entry i = s.entry i) ∧ (∀ i, (s.tickCells).holder i = s.holder i) := by
  exact ⟨rfl, rfl, rfl, rfl, rfl, rfl, rfl, rfl, rfl, rfl, rfl, rfl, rfl, rfl, rfl, fun _ => rfl, fun _ => rfl, fun _ _ => rfl, fun _ => rfl, fun _ => rfl⟩

@[simp] theorem State.stepMicros_frame (s : State) :
    (s.stepMicros).cu = s.cu ∧ (s.stepMicros).rings = s.rings ∧ (s.stepMicros).fu = s.fu ∧
    (s.stepMicros).banks = s.banks ∧ (s.stepMicros).cells = s.cells ∧ (s.stepMicros).refs = s.refs ∧
    (s.stepMicros).sched = s.sched ∧ (s.stepMicros).cw = s.cw ∧ (s.stepMicros).eu = s.eu ∧
    (s.stepMicros).hp = s.hp ∧ (s.stepMicros).avdd = s.avdd ∧ (s.stepMicros).resetAsserted = s.resetAsserted ∧
    (s.stepMicros).draws = s.draws ∧ (s.stepMicros).pending = s.pending ∧
    (∀ i, (s.stepMicros).ring i = s.ring i) ∧ (∀ i, (s.stepMicros).bank i = s.bank i) ∧
    (∀ i, (s.stepMicros).cell i = s.cell i) ∧ (∀ i q, (s.stepMicros).ref i q = s.ref i q) ∧
    (∀ i, (s.stepMicros).entry i = s.entry i) := by
  exact ⟨rfl, rfl, rfl, rfl, rfl, rfl, rfl, rfl, rfl, rfl, rfl, rfl, rfl, rfl, fun _ => rfl, fun _ => rfl, fun _ => rfl, fun _ _ => rfl, fun _ => rfl⟩

@[simp] theorem State.tickTimeBase_frame (s : State) :
    (s.tickTimeBase).cu = s.cu ∧ (s.tickTimeBase).rings = s.rings ∧ (s.tickTimeBase).fu = s.fu ∧
    (s.tickTimeBase).banks = s.banks ∧ (s.tickTimeBase).cells = s.cells ∧ (s.tickTimeBase).refs = s.refs ∧
    (s.tickTimeBase).sched = s.sched ∧ (s.tickTimeBase).cw = s.cw ∧ (s.tickTimeBase).eu = s.eu ∧
    (s.tickTimeBase).hp = s.hp ∧ (s.tickTimeBase).avdd = s.avdd ∧
    (s.tickTimeBase).resetAsserted = s.resetAsserted ∧ (s.tickTimeBase).draws = s.draws ∧
    (s.tickTimeBase).pending = s.pending ∧ (∀ i, (s.tickTimeBase).ring i = s.ring i) ∧
    (∀ i, (s.tickTimeBase).bank i = s.bank i) ∧ (∀ i, (s.tickTimeBase).cell i = s.cell i) ∧
    (∀ i q, (s.tickTimeBase).ref i q = s.ref i q) ∧ (∀ i, (s.tickTimeBase).entry i = s.entry i) := by
  unfold State.tickTimeBase
  split <;> exact ⟨rfl, rfl, rfl, rfl, rfl, rfl, rfl, rfl, rfl, rfl, rfl, rfl, rfl, rfl, fun _ => rfl, fun _ => rfl, fun _ => rfl, fun _ _ => rfl, fun _ => rfl⟩

@[simp] theorem State.tick_frame (s : State) :
    (s.tick).cu = s.cu ∧ (s.tick).rings = s.rings ∧ (s.tick).fu = s.fu ∧ (s.tick).cw = s.cw ∧
    (s.tick).hp = s.hp ∧ (s.tick).avdd = s.avdd ∧ (s.tick).resetAsserted = s.resetAsserted ∧
    (s.tick).pending = s.pending ∧ (∀ i, (s.tick).ring i = s.ring i) := by
  simp [State.tick]

@[simp] theorem State.noticeGranted_frame (s : State) :
    (s.noticeGranted).cu = s.cu ∧ (s.noticeGranted).rings = s.rings ∧ (s.noticeGranted).fu = s.fu ∧
    (s.noticeGranted).banks = s.banks ∧ (s.noticeGranted).cells = s.cells ∧ (s.noticeGranted).sm = s.sm ∧
    (s.noticeGranted).sched = s.sched ∧ (s.noticeGranted).cw = s.cw ∧ (s.noticeGranted).eu = s.eu ∧
    (s.noticeGranted).tb = s.tb ∧ (s.noticeGranted).hp = s.hp ∧ (s.noticeGranted).avdd = s.avdd ∧
    (s.noticeGranted).resetAsserted = s.resetAsserted ∧
    (s.noticeGranted).pending = s.pending ∧ (∀ i, (s.noticeGranted).ring i = s.ring i) ∧
    (∀ i, (s.noticeGranted).bank i = s.bank i) ∧ (∀ i, (s.noticeGranted).cell i = s.cell i) ∧
    (∀ i, (s.noticeGranted).entry i = s.entry i) ∧ (∀ i, (s.noticeGranted).holder i = s.holder i) := by
  have h {β : Type} (g : State → β)
      (hg : ∀ t a, g (if s.holdGranted a then State.sendNotice t a else t) = g t) :=
    foldl_keeps g (fun t b => if s.holdGranted b then State.sendNotice t b else t) hg (List.finRange 4)
  exact ⟨h State.cu (by intro t a; split <;> simp) s, h State.rings (by intro t a; split <;> simp) s,
    h State.fu (by intro t a; split <;> simp) s, h State.banks (by intro t a; split <;> simp) s,
    h State.cells (by intro t a; split <;> simp) s, h State.sm (by intro t a; split <;> simp) s,
    h State.sched (by intro t a; split <;> simp) s, h State.cw (by intro t a; split <;> simp) s,
    h State.eu (by intro t a; split <;> simp) s, h State.tb (by intro t a; split <;> simp) s,
    h State.hp (by intro t a; split <;> simp) s, h State.avdd (by intro t a; split <;> simp) s,
    h State.resetAsserted (by intro t a; split <;> simp) s,
    h State.pending (by intro t a; split <;> simp) s,
    fun i => congrArg (fun v : Vector SubRing 4 => v[i]) (h State.rings (by intro t a; split <;> simp) s),
    fun i => congrArg (fun v : Vector BankSeq 4 => v[i]) (h State.banks (by intro t a; split <;> simp) s),
    fun i => congrArg (fun v : Vector Cell 4 => v[i]) (h State.cells (by intro t a; split <;> simp) s),
    fun i => congrArg (fun v : Vector SchedEntry 8 => v[i]) (h State.sched (by intro t a; split <;> simp) s),
    fun i => congrArg (fun m : SupplyMonitor => m.holders[i]) (h State.sm (by intro t a; split <;> simp) s)⟩

@[simp] theorem State.lowTransitionEffects_frame (s : State) :
    (s.lowTransitionEffects).cu = s.cu ∧ (s.lowTransitionEffects).rings = s.rings ∧
    (s.lowTransitionEffects).fu = s.fu ∧ (s.lowTransitionEffects).banks = s.banks ∧
    (s.lowTransitionEffects).cells = s.cells ∧ (s.lowTransitionEffects).sched = s.sched ∧
    (s.lowTransitionEffects).cw = s.cw ∧ (s.lowTransitionEffects).tb = s.tb ∧
    (s.lowTransitionEffects).hp = s.hp ∧ (s.lowTransitionEffects).avdd = s.avdd ∧
    (s.lowTransitionEffects).resetAsserted = s.resetAsserted ∧
    (s.lowTransitionEffects).pending = s.pending ∧ (∀ i, (s.lowTransitionEffects).ring i = s.ring i) ∧
    (∀ i, (s.lowTransitionEffects).bank i = s.bank i) ∧ (∀ i, (s.lowTransitionEffects).cell i = s.cell i) ∧
    (∀ i, (s.lowTransitionEffects).entry i = s.entry i) := by
  simp [State.lowTransitionEffects, State.ring, State.bank, State.cell, State.entry]

/-- A move of AVDD reaches the pin, the monitor, the reference table and the causes, and nothing else. -/
@[simp] theorem State.moveAvdd_frame (s : State) (mv : Nat) :
    (s.moveAvdd mv).cu = s.cu ∧ (s.moveAvdd mv).rings = s.rings ∧ (s.moveAvdd mv).fu = s.fu ∧
    (s.moveAvdd mv).banks = s.banks ∧ (s.moveAvdd mv).cells = s.cells ∧ (s.moveAvdd mv).sched = s.sched ∧
    (s.moveAvdd mv).cw = s.cw ∧ (s.moveAvdd mv).tb = s.tb ∧ (s.moveAvdd mv).hp = s.hp ∧
    (s.moveAvdd mv).resetAsserted = s.resetAsserted ∧
    (s.moveAvdd mv).pending = s.pending ∧ (s.moveAvdd mv).avdd = mv ∧ (∀ i, (s.moveAvdd mv).ring i = s.ring i) ∧
    (∀ i, (s.moveAvdd mv).bank i = s.bank i) ∧ (∀ i, (s.moveAvdd mv).cell i = s.cell i) ∧
    (∀ i, (s.moveAvdd mv).entry i = s.entry i) := by
  unfold State.moveAvdd
  split <;> simp

@[simp] theorem State.pinAvdd_frame (s : State) (mv : Nat) :
    (s.pinAvdd mv).cu = s.cu ∧ (s.pinAvdd mv).rings = s.rings ∧ (s.pinAvdd mv).fu = s.fu ∧
    (s.pinAvdd mv).banks = s.banks ∧ (s.pinAvdd mv).cells = s.cells ∧ (s.pinAvdd mv).sched = s.sched ∧
    (s.pinAvdd mv).cw = s.cw ∧ (s.pinAvdd mv).tb = s.tb ∧ (s.pinAvdd mv).hp = s.hp ∧
    (s.pinAvdd mv).resetAsserted = s.resetAsserted ∧
    (s.pinAvdd mv).pending = s.pending ∧ (s.pinAvdd mv).avdd = mv ∧ (∀ i, (s.pinAvdd mv).ring i = s.ring i) ∧
    (∀ i, (s.pinAvdd mv).bank i = s.bank i) ∧ (∀ i, (s.pinAvdd mv).cell i = s.cell i) ∧
    (∀ i, (s.pinAvdd mv).entry i = s.entry i) := by
  unfold State.pinAvdd
  split
  · exact ⟨rfl, rfl, rfl, rfl, rfl, rfl, rfl, rfl, rfl, rfl, rfl, rfl, fun _ => rfl, fun _ => rfl, fun _ => rfl,
      fun _ => rfl⟩
  · simp

@[simp] theorem State.invalidateNamed_frame (s : State) (b : Bank) (f : Ref → Bool) :
    (s.invalidateNamed b f).cu = s.cu ∧ (s.invalidateNamed b f).rings = s.rings ∧
    (s.invalidateNamed b f).fu = s.fu ∧ (s.invalidateNamed b f).banks = s.banks ∧
    (s.invalidateNamed b f).cells = s.cells ∧ (s.invalidateNamed b f).sm = s.sm ∧
    (s.invalidateNamed b f).sched = s.sched ∧ (s.invalidateNamed b f).cw = s.cw ∧
    (s.invalidateNamed b f).eu = s.eu ∧ (s.invalidateNamed b f).tb = s.tb ∧ (s.invalidateNamed b f).hp = s.hp ∧
    (s.invalidateNamed b f).avdd = s.avdd ∧ (s.invalidateNamed b f).resetAsserted = s.resetAsserted ∧
    (s.invalidateNamed b f).draws = s.draws ∧ (s.invalidateNamed b f).pending = s.pending ∧
    (∀ i, (s.invalidateNamed b f).ring i = s.ring i) ∧ (∀ i, (s.invalidateNamed b f).bank i = s.bank i) ∧
    (∀ i, (s.invalidateNamed b f).cell i = s.cell i) ∧ (∀ i, (s.invalidateNamed b f).entry i = s.entry i) ∧
    (∀ i, (s.invalidateNamed b f).holder i = s.holder i) := by
  simp [State.invalidateNamed]

@[simp] theorem State.setScheduleClaim_frame (s : State) (d : Bytes) :
    (s.setScheduleClaim d).1.cu = s.cu ∧ (s.setScheduleClaim d).1.rings = s.rings ∧
    (s.setScheduleClaim d).1.fu = s.fu ∧ (s.setScheduleClaim d).1.banks = s.banks ∧
    (s.setScheduleClaim d).1.cells = s.cells ∧ (s.setScheduleClaim d).1.refs = s.refs ∧
    (s.setScheduleClaim d).1.sm = s.sm ∧ (s.setScheduleClaim d).1.cw = s.cw ∧
    (s.setScheduleClaim d).1.tb = s.tb ∧ (s.setScheduleClaim d).1.hp = s.hp ∧
    (s.setScheduleClaim d).1.avdd = s.avdd ∧ (s.setScheduleClaim d).1.resetAsserted = s.resetAsserted ∧
    (s.setScheduleClaim d).1.draws = s.draws ∧ (s.setScheduleClaim d).1.pending = s.pending ∧
    (∀ i, (s.setScheduleClaim d).1.ring i = s.ring i) ∧ (∀ i, (s.setScheduleClaim d).1.bank i = s.bank i) ∧
    (∀ i, (s.setScheduleClaim d).1.cell i = s.cell i) ∧ (∀ i q, (s.setScheduleClaim d).1.ref i q = s.ref i q) ∧
    (∀ i, (s.setScheduleClaim d).1.holder i = s.holder i) := by
  unfold State.setScheduleClaim
  dsimp only
  repeat' split
  all_goals simp

@[simp] theorem State.stopCell_frame (s : State) (b : Bank) :
    (s.stopCell b).cu = s.cu ∧ (s.stopCell b).rings = s.rings ∧ (s.stopCell b).fu = s.fu ∧
    (s.stopCell b).banks = s.banks ∧ (s.stopCell b).refs = s.refs ∧ (s.stopCell b).sm = s.sm ∧
    (s.stopCell b).sched = s.sched ∧ (s.stopCell b).cw = s.cw ∧ (s.stopCell b).eu = s.eu ∧
    (s.stopCell b).tb = s.tb ∧ (s.stopCell b).hp = s.hp ∧ (s.stopCell b).avdd = s.avdd ∧
    (s.stopCell b).resetAsserted = s.resetAsserted ∧ (s.stopCell b).draws = s.draws ∧
    (s.stopCell b).pending = s.pending ∧ (∀ i, (s.stopCell b).ring i = s.ring i) ∧
    (∀ i, (s.stopCell b).bank i = s.bank i) ∧ (∀ i q, (s.stopCell b).ref i q = s.ref i q) ∧
    (∀ i, (s.stopCell b).entry i = s.entry i) ∧ (∀ i, (s.stopCell b).holder i = s.holder i) := by
  simp [State.stopCell]

@[simp] theorem State.flushQueue_frame (s : State) (b : Bank) :
    (s.flushQueue b).cu = s.cu ∧ (s.flushQueue b).rings = s.rings ∧ (s.flushQueue b).fu = s.fu ∧
    (s.flushQueue b).cells = s.cells ∧ (s.flushQueue b).refs = s.refs ∧ (s.flushQueue b).sm = s.sm ∧
    (s.flushQueue b).sched = s.sched ∧ (s.flushQueue b).cw = s.cw ∧ (s.flushQueue b).eu = s.eu ∧
    (s.flushQueue b).tb = s.tb ∧ (s.flushQueue b).hp = s.hp ∧ (s.flushQueue b).avdd = s.avdd ∧
    (s.flushQueue b).resetAsserted = s.resetAsserted ∧ (s.flushQueue b).draws = s.draws ∧
    (s.flushQueue b).pending = s.pending ∧ (∀ i, (s.flushQueue b).ring i = s.ring i) ∧
    (∀ i, (s.flushQueue b).cell i = s.cell i) ∧ (∀ i q, (s.flushQueue b).ref i q = s.ref i q) ∧
    (∀ i, (s.flushQueue b).entry i = s.entry i) ∧ (∀ i, (s.flushQueue b).holder i = s.holder i) := by
  simp [State.flushQueue]

@[simp] theorem State.abortStarting_frame (s : State) (b : Bank) :
    (s.abortStarting b).cu = s.cu ∧ (s.abortStarting b).rings = s.rings ∧ (s.abortStarting b).fu = s.fu ∧
    (s.abortStarting b).cells = s.cells ∧ (s.abortStarting b).refs = s.refs ∧ (s.abortStarting b).cw = s.cw ∧
    (s.abortStarting b).eu = s.eu ∧ (s.abortStarting b).tb = s.tb ∧ (s.abortStarting b).hp = s.hp ∧
    (s.abortStarting b).avdd = s.avdd ∧ (s.abortStarting b).resetAsserted = s.resetAsserted ∧
    (s.abortStarting b).draws = s.draws ∧ (s.abortStarting b).pending = s.pending ∧
    (∀ i, (s.abortStarting b).ring i = s.ring i) ∧ (∀ i, (s.abortStarting b).cell i = s.cell i) ∧
    (∀ i q, (s.abortStarting b).ref i q = s.ref i q) := by
  simp [State.abortStarting]

@[simp] theorem State.abortReference_frame (s : State) (b : Bank) :
    (s.abortReference b).cu = s.cu ∧ (s.abortReference b).rings = s.rings ∧ (s.abortReference b).fu = s.fu ∧
    (s.abortReference b).cw = s.cw ∧ (s.abortReference b).eu = s.eu ∧ (s.abortReference b).tb = s.tb ∧
    (s.abortReference b).hp = s.hp ∧ (s.abortReference b).avdd = s.avdd ∧
    (s.abortReference b).resetAsserted = s.resetAsserted ∧ (s.abortReference b).draws = s.draws ∧
    (s.abortReference b).pending = s.pending ∧ (∀ i, (s.abortReference b).ring i = s.ring i) := by
  simp [State.abortReference]

@[simp] theorem State.abortEntry_frame (s : State) (b : Bank) :
    (s.abortEntry b).cu = s.cu ∧ (s.abortEntry b).rings = s.rings ∧ (s.abortEntry b).fu = s.fu ∧
    (s.abortEntry b).cells = s.cells ∧ (s.abortEntry b).refs = s.refs ∧ (s.abortEntry b).sm = s.sm ∧
    (s.abortEntry b).sched = s.sched ∧ (s.abortEntry b).cw = s.cw ∧ (s.abortEntry b).eu = s.eu ∧
    (s.abortEntry b).tb = s.tb ∧ (s.abortEntry b).hp = s.hp ∧ (s.abortEntry b).avdd = s.avdd ∧
    (s.abortEntry b).resetAsserted = s.resetAsserted ∧ (s.abortEntry b).draws = s.draws ∧
    (s.abortEntry b).pending = s.pending ∧ (∀ i, (s.abortEntry b).ring i = s.ring i) ∧
    (∀ i, (s.abortEntry b).cell i = s.cell i) ∧ (∀ i q, (s.abortEntry b).ref i q = s.ref i q) ∧
    (∀ i, (s.abortEntry b).entry i = s.entry i) ∧ (∀ i, (s.abortEntry b).holder i = s.holder i) := by
  simp [State.abortEntry]

@[simp] theorem State.abortMeasuring_frame (s : State) (b : Bank) :
    (s.abortMeasuring b).cu = s.cu ∧ (s.abortMeasuring b).rings = s.rings ∧ (s.abortMeasuring b).fu = s.fu ∧
    (s.abortMeasuring b).cw = s.cw ∧ (s.abortMeasuring b).eu = s.eu ∧ (s.abortMeasuring b).tb = s.tb ∧
    (s.abortMeasuring b).hp = s.hp ∧ (s.abortMeasuring b).avdd = s.avdd ∧
    (s.abortMeasuring b).resetAsserted = s.resetAsserted ∧ (s.abortMeasuring b).draws = s.draws ∧
    (s.abortMeasuring b).pending = s.pending ∧ (∀ i, (s.abortMeasuring b).ring i = s.ring i) := by
  simp [State.abortMeasuring]

@[simp] theorem State.abortActive_frame (s : State) (b : Bank) :
    (s.abortActive b).cu = s.cu ∧ (s.abortActive b).rings = s.rings ∧ (s.abortActive b).fu = s.fu ∧
    (s.abortActive b).cw = s.cw ∧ (s.abortActive b).eu = s.eu ∧ (s.abortActive b).tb = s.tb ∧
    (s.abortActive b).hp = s.hp ∧ (s.abortActive b).avdd = s.avdd ∧
    (s.abortActive b).resetAsserted = s.resetAsserted ∧ (s.abortActive b).draws = s.draws ∧
    (s.abortActive b).pending = s.pending ∧ (∀ i, (s.abortActive b).ring i = s.ring i) := by
  unfold State.abortActive
  split <;> simp

@[simp] theorem State.abortBank_frame (s : State) (b : Bank) :
    (s.abortBank b).cu = s.cu ∧ (s.abortBank b).rings = s.rings ∧ (s.abortBank b).fu = s.fu ∧
    (s.abortBank b).cw = s.cw ∧ (s.abortBank b).eu = s.eu ∧ (s.abortBank b).tb = s.tb ∧
    (s.abortBank b).hp = s.hp ∧ (s.abortBank b).avdd = s.avdd ∧
    (s.abortBank b).resetAsserted = s.resetAsserted ∧ (s.abortBank b).draws = s.draws ∧
    (s.abortBank b).pending = s.pending ∧ (∀ i, (s.abortBank b).ring i = s.ring i) := by
  simp [State.abortBank]

@[simp] theorem State.writeBankAbort_frame (s : State) (v : BitVec 32) :
    (s.writeBankAbort v).cu = s.cu ∧ (s.writeBankAbort v).rings = s.rings ∧ (s.writeBankAbort v).fu = s.fu ∧
    (s.writeBankAbort v).cw = s.cw ∧ (s.writeBankAbort v).eu = s.eu ∧ (s.writeBankAbort v).tb = s.tb ∧
    (s.writeBankAbort v).hp = s.hp ∧ (s.writeBankAbort v).avdd = s.avdd ∧
    (s.writeBankAbort v).resetAsserted = s.resetAsserted ∧ (s.writeBankAbort v).draws = s.draws ∧
    (s.writeBankAbort v).pending = s.pending ∧ (∀ i, (s.writeBankAbort v).ring i = s.ring i) := by
  unfold State.writeBankAbort
  split
  · have h {β : Type} (g : State → β)
        (hg : ∀ s a, g (if abortNames v a then State.abortBank s a else s) = g s) :=
      foldl_keeps g (fun t b => if abortNames v b then State.abortBank t b else t) hg (List.finRange 4)
    exact ⟨h State.cu (by intro s a; split <;> simp) s, h State.rings (by intro s a; split <;> simp) s,
      h State.fu (by intro s a; split <;> simp) s, h State.cw (by intro s a; split <;> simp) s,
      h State.eu (by intro s a; split <;> simp) s, h State.tb (by intro s a; split <;> simp) s,
      h State.hp (by intro s a; split <;> simp) s, h State.avdd (by intro s a; split <;> simp) s,
      h State.resetAsserted (by intro s a; split <;> simp) s, h State.draws (by intro s a; split <;> simp) s,
      h State.pending (by intro s a; split <;> simp) s,
      fun i => congrArg (fun v : Vector SubRing 4 => v[i]) (h State.rings (by intro s a; split <;> simp) s)⟩
  · simp

@[simp] theorem State.formFetchRecord_frame (s : State) (n : Ring) (r : Record) :
    (s.formFetchRecord n r).cu = s.cu ∧ (s.formFetchRecord n r).banks = s.banks ∧
    (s.formFetchRecord n r).cells = s.cells ∧ (s.formFetchRecord n r).refs = s.refs ∧
    (s.formFetchRecord n r).sm = s.sm ∧ (s.formFetchRecord n r).sched = s.sched ∧
    (s.formFetchRecord n r).cw = s.cw ∧ (s.formFetchRecord n r).eu = s.eu ∧ (s.formFetchRecord n r).tb = s.tb ∧
    (s.formFetchRecord n r).hp = s.hp ∧ (s.formFetchRecord n r).avdd = s.avdd ∧
    (s.formFetchRecord n r).resetAsserted = s.resetAsserted ∧ (s.formFetchRecord n r).draws = s.draws ∧
    (s.formFetchRecord n r).pending = s.pending ∧ (∀ i, (s.formFetchRecord n r).bank i = s.bank i) ∧
    (∀ i, (s.formFetchRecord n r).cell i = s.cell i) ∧ (∀ i q, (s.formFetchRecord n r).ref i q = s.ref i q) ∧
    (∀ i, (s.formFetchRecord n r).entry i = s.entry i) ∧ (∀ i, (s.formFetchRecord n r).holder i = s.holder i) := by
  simp [State.formFetchRecord]

@[simp] theorem State.releaseFence_frame (s : State) (n : Ring) :
    (s.releaseFence n).cu = s.cu ∧ (s.releaseFence n).banks = s.banks ∧ (s.releaseFence n).cells = s.cells ∧
    (s.releaseFence n).refs = s.refs ∧ (s.releaseFence n).sm = s.sm ∧ (s.releaseFence n).sched = s.sched ∧
    (s.releaseFence n).cw = s.cw ∧ (s.releaseFence n).eu = s.eu ∧ (s.releaseFence n).tb = s.tb ∧
    (s.releaseFence n).hp = s.hp ∧ (s.releaseFence n).avdd = s.avdd ∧
    (s.releaseFence n).resetAsserted = s.resetAsserted ∧ (s.releaseFence n).draws = s.draws ∧
    (s.releaseFence n).pending = s.pending ∧ (∀ i, (s.releaseFence n).bank i = s.bank i) ∧
    (∀ i, (s.releaseFence n).cell i = s.cell i) ∧ (∀ i q, (s.releaseFence n).ref i q = s.ref i q) ∧
    (∀ i, (s.releaseFence n).entry i = s.entry i) ∧ (∀ i, (s.releaseFence n).holder i = s.holder i) := by
  unfold State.releaseFence
  dsimp only
  split <;> simp

@[simp] theorem State.outstandingFalls_frame (s : State) (n : Ring) :
    (s.outstandingFalls n).cu = s.cu ∧ (s.outstandingFalls n).banks = s.banks ∧
    (s.outstandingFalls n).cells = s.cells ∧ (s.outstandingFalls n).refs = s.refs ∧
    (s.outstandingFalls n).sm = s.sm ∧ (s.outstandingFalls n).sched = s.sched ∧
    (s.outstandingFalls n).cw = s.cw ∧ (s.outstandingFalls n).eu = s.eu ∧ (s.outstandingFalls n).tb = s.tb ∧
    (s.outstandingFalls n).hp = s.hp ∧ (s.outstandingFalls n).avdd = s.avdd ∧
    (s.outstandingFalls n).resetAsserted = s.resetAsserted ∧ (s.outstandingFalls n).draws = s.draws ∧
    (s.outstandingFalls n).pending = s.pending ∧ (∀ i, (s.outstandingFalls n).bank i = s.bank i) ∧
    (∀ i, (s.outstandingFalls n).cell i = s.cell i) ∧ (∀ i q, (s.outstandingFalls n).ref i q = s.ref i q) ∧
    (∀ i, (s.outstandingFalls n).entry i = s.entry i) ∧ (∀ i, (s.outstandingFalls n).holder i = s.holder i) := by
  simp [State.outstandingFalls]

@[simp] theorem State.finishSlot_frame (s : State) (n : Ring) :
    (s.finishSlot n).cu = s.cu ∧ (s.finishSlot n).fu = s.fu ∧ (s.finishSlot n).banks = s.banks ∧
    (s.finishSlot n).cells = s.cells ∧ (s.finishSlot n).refs = s.refs ∧ (s.finishSlot n).sm = s.sm ∧
    (s.finishSlot n).sched = s.sched ∧ (s.finishSlot n).cw = s.cw ∧ (s.finishSlot n).eu = s.eu ∧
    (s.finishSlot n).tb = s.tb ∧ (s.finishSlot n).avdd = s.avdd ∧
    (s.finishSlot n).resetAsserted = s.resetAsserted ∧ (s.finishSlot n).draws = s.draws ∧
    (s.finishSlot n).pending = s.pending ∧ (∀ i, (s.finishSlot n).bank i = s.bank i) ∧
    (∀ i, (s.finishSlot n).cell i = s.cell i) ∧ (∀ i q, (s.finishSlot n).ref i q = s.ref i q) ∧
    (∀ i, (s.finishSlot n).entry i = s.entry i) ∧ (∀ i, (s.finishSlot n).holder i = s.holder i) := by
  simp [State.finishSlot]

@[simp] theorem State.fetchPosted_frame (s : State) (r : Record) :
    (s.fetchPosted r).cu = s.cu ∧ (s.fetchPosted r).banks = s.banks ∧ (s.fetchPosted r).cells = s.cells ∧
    (s.fetchPosted r).refs = s.refs ∧ (s.fetchPosted r).sm = s.sm ∧ (s.fetchPosted r).sched = s.sched ∧
    (s.fetchPosted r).cw = s.cw ∧ (s.fetchPosted r).eu = s.eu ∧ (s.fetchPosted r).tb = s.tb ∧
    (s.fetchPosted r).avdd = s.avdd ∧ (s.fetchPosted r).resetAsserted = s.resetAsserted ∧
    (s.fetchPosted r).draws = s.draws ∧ (s.fetchPosted r).pending = s.pending ∧
    (∀ i, (s.fetchPosted r).bank i = s.bank i) ∧ (∀ i, (s.fetchPosted r).cell i = s.cell i) ∧
    (∀ i q, (s.fetchPosted r).ref i q = s.ref i q) ∧ (∀ i, (s.fetchPosted r).entry i = s.entry i) ∧
    (∀ i, (s.fetchPosted r).holder i = s.holder i) := by
  unfold State.fetchPosted
  split <;> exact ⟨rfl, rfl, rfl, rfl, rfl, rfl, rfl, rfl, rfl, rfl, rfl, rfl, rfl, fun _ => rfl, fun _ => rfl, fun _ _ => rfl, fun _ => rfl, fun _ => rfl⟩

@[simp] theorem State.writeSubmit_frame (s : State) (v : BitVec 32) :
    (s.writeSubmit v).cu = s.cu ∧ (s.writeSubmit v).fu = s.fu ∧ (s.writeSubmit v).banks = s.banks ∧
    (s.writeSubmit v).cells = s.cells ∧ (s.writeSubmit v).refs = s.refs ∧ (s.writeSubmit v).sm = s.sm ∧
    (s.writeSubmit v).sched = s.sched ∧ (s.writeSubmit v).cw = s.cw ∧ (s.writeSubmit v).tb = s.tb ∧
    (s.writeSubmit v).hp = s.hp ∧ (s.writeSubmit v).avdd = s.avdd ∧
    (s.writeSubmit v).resetAsserted = s.resetAsserted ∧ (s.writeSubmit v).draws = s.draws ∧
    (s.writeSubmit v).pending = s.pending ∧ (∀ i, (s.writeSubmit v).bank i = s.bank i) ∧
    (∀ i, (s.writeSubmit v).cell i = s.cell i) ∧ (∀ i q, (s.writeSubmit v).ref i q = s.ref i q) ∧
    (∀ i, (s.writeSubmit v).entry i = s.entry i) ∧ (∀ i, (s.writeSubmit v).holder i = s.holder i) := by
  unfold State.writeSubmit
  repeat' split
  all_goals simp

@[simp] theorem State.issueRingRead_frame (s : State) (n : Ring) :
    (s.issueRingRead n).cu = s.cu ∧ (s.issueRingRead n).banks = s.banks ∧ (s.issueRingRead n).cells = s.cells ∧
    (s.issueRingRead n).refs = s.refs ∧ (s.issueRingRead n).sm = s.sm ∧ (s.issueRingRead n).sched = s.sched ∧
    (s.issueRingRead n).cw = s.cw ∧ (s.issueRingRead n).eu = s.eu ∧ (s.issueRingRead n).tb = s.tb ∧
    (s.issueRingRead n).avdd = s.avdd ∧ (s.issueRingRead n).resetAsserted = s.resetAsserted ∧
    (s.issueRingRead n).draws = s.draws ∧ (s.issueRingRead n).pending = s.pending ∧
    (∀ i, (s.issueRingRead n).bank i = s.bank i) ∧ (∀ i, (s.issueRingRead n).cell i = s.cell i) ∧
    (∀ i q, (s.issueRingRead n).ref i q = s.ref i q) ∧ (∀ i, (s.issueRingRead n).entry i = s.entry i) ∧
    (∀ i, (s.issueRingRead n).holder i = s.holder i) := by
  exact ⟨rfl, rfl, rfl, rfl, rfl, rfl, rfl, rfl, rfl, rfl, rfl, rfl, rfl, fun _ => rfl, fun _ => rfl, fun _ _ => rfl, fun _ => rfl, fun _ => rfl⟩

@[simp] theorem State.issueTemplateRead_frame (s : State) (e : Entry) :
    (s.issueTemplateRead e).cu = s.cu ∧ (s.issueTemplateRead e).rings = s.rings ∧
    (s.issueTemplateRead e).fu = s.fu ∧ (s.issueTemplateRead e).banks = s.banks ∧
    (s.issueTemplateRead e).cells = s.cells ∧ (s.issueTemplateRead e).refs = s.refs ∧
    (s.issueTemplateRead e).sm = s.sm ∧ (s.issueTemplateRead e).cw = s.cw ∧ (s.issueTemplateRead e).eu = s.eu ∧
    (s.issueTemplateRead e).tb = s.tb ∧ (s.issueTemplateRead e).avdd = s.avdd ∧
    (s.issueTemplateRead e).resetAsserted = s.resetAsserted ∧ (s.issueTemplateRead e).draws = s.draws ∧
    (s.issueTemplateRead e).pending = s.pending ∧ (∀ i, (s.issueTemplateRead e).ring i = s.ring i) ∧
    (∀ i, (s.issueTemplateRead e).bank i = s.bank i) ∧ (∀ i, (s.issueTemplateRead e).cell i = s.cell i) ∧
    (∀ i q, (s.issueTemplateRead e).ref i q = s.ref i q) ∧ (∀ i, (s.issueTemplateRead e).holder i = s.holder i) := by
  simp [State.issueTemplateRead]

@[simp] theorem State.stage_frame (s : State) (n : Ring) (d : Bytes) (q0 : RingState) :
    (s.stage n d q0).cu = s.cu ∧ (s.stage n d q0).fu = s.fu ∧ (s.stage n d q0).banks = s.banks ∧
    (s.stage n d q0).cells = s.cells ∧ (s.stage n d q0).refs = s.refs ∧ (s.stage n d q0).sm = s.sm ∧
    (s.stage n d q0).sched = s.sched ∧ (s.stage n d q0).cw = s.cw ∧ (s.stage n d q0).eu = s.eu ∧
    (s.stage n d q0).tb = s.tb ∧ (s.stage n d q0).hp = s.hp ∧ (s.stage n d q0).avdd = s.avdd ∧
    (s.stage n d q0).resetAsserted = s.resetAsserted ∧ (s.stage n d q0).draws = s.draws ∧
    (s.stage n d q0).pending = s.pending ∧ (∀ i, (s.stage n d q0).bank i = s.bank i) ∧
    (∀ i, (s.stage n d q0).cell i = s.cell i) ∧ (∀ i q, (s.stage n d q0).ref i q = s.ref i q) ∧
    (∀ i, (s.stage n d q0).entry i = s.entry i) ∧ (∀ i, (s.stage n d q0).holder i = s.holder i) := by
  simp [State.stage]

@[simp] theorem State.stageAnswer_frame (s : State) (n : Ring) (d : Bytes) :
    (s.stageAnswer n d).cu = s.cu ∧ (s.stageAnswer n d).banks = s.banks ∧ (s.stageAnswer n d).cells = s.cells ∧
    (s.stageAnswer n d).refs = s.refs ∧ (s.stageAnswer n d).sm = s.sm ∧ (s.stageAnswer n d).sched = s.sched ∧
    (s.stageAnswer n d).cw = s.cw ∧ (s.stageAnswer n d).eu = s.eu ∧ (s.stageAnswer n d).tb = s.tb ∧
    (s.stageAnswer n d).hp = s.hp ∧ (s.stageAnswer n d).avdd = s.avdd ∧
    (s.stageAnswer n d).resetAsserted = s.resetAsserted ∧ (s.stageAnswer n d).draws = s.draws ∧
    (s.stageAnswer n d).pending = s.pending ∧ (∀ i, (s.stageAnswer n d).bank i = s.bank i) ∧
    (∀ i, (s.stageAnswer n d).cell i = s.cell i) ∧ (∀ i q, (s.stageAnswer n d).ref i q = s.ref i q) ∧
    (∀ i, (s.stageAnswer n d).entry i = s.entry i) ∧ (∀ i, (s.stageAnswer n d).holder i = s.holder i) := by
  unfold State.stageAnswer
  split <;> simp

@[simp] theorem State.ringError_frame (s : State) (n : Ring) :
    (s.ringError n).cu = s.cu ∧ (s.ringError n).banks = s.banks ∧ (s.ringError n).cells = s.cells ∧
    (s.ringError n).refs = s.refs ∧ (s.ringError n).sm = s.sm ∧ (s.ringError n).sched = s.sched ∧
    (s.ringError n).cw = s.cw ∧ (s.ringError n).tb = s.tb ∧ (s.ringError n).avdd = s.avdd ∧
    (s.ringError n).resetAsserted = s.resetAsserted ∧ (s.ringError n).draws = s.draws ∧
    (s.ringError n).pending = s.pending ∧ (∀ i, (s.ringError n).bank i = s.bank i) ∧
    (∀ i, (s.ringError n).cell i = s.cell i) ∧ (∀ i q, (s.ringError n).ref i q = s.ref i q) ∧
    (∀ i, (s.ringError n).entry i = s.entry i) ∧ (∀ i, (s.ringError n).holder i = s.holder i) := by
  simp [State.ringError]

@[simp] theorem State.takeRingAnswer_frame (s : State) (n : Ring) (a : ReadAnswer) :
    (s.takeRingAnswer n a).cu = s.cu ∧ (s.takeRingAnswer n a).banks = s.banks ∧
    (s.takeRingAnswer n a).cells = s.cells ∧ (s.takeRingAnswer n a).refs = s.refs ∧
    (s.takeRingAnswer n a).sm = s.sm ∧ (s.takeRingAnswer n a).sched = s.sched ∧
    (s.takeRingAnswer n a).cw = s.cw ∧ (s.takeRingAnswer n a).tb = s.tb ∧
    (s.takeRingAnswer n a).avdd = s.avdd ∧ (s.takeRingAnswer n a).resetAsserted = s.resetAsserted ∧
    (s.takeRingAnswer n a).draws = s.draws ∧ (s.takeRingAnswer n a).pending = s.pending ∧
    (∀ i, (s.takeRingAnswer n a).bank i = s.bank i) ∧ (∀ i, (s.takeRingAnswer n a).cell i = s.cell i) ∧
    (∀ i q, (s.takeRingAnswer n a).ref i q = s.ref i q) ∧ (∀ i, (s.takeRingAnswer n a).entry i = s.entry i) ∧
    (∀ i, (s.takeRingAnswer n a).holder i = s.holder i) := by
  unfold State.takeRingAnswer
  repeat' split
  all_goals simp

@[simp] theorem State.templateFails_frame (s : State) (e : Entry) (tg : BitVec 16) (f : CheckFailure) :
    (s.templateFails e tg f).cu = s.cu ∧ (s.templateFails e tg f).rings = s.rings ∧
    (s.templateFails e tg f).banks = s.banks ∧ (s.templateFails e tg f).cells = s.cells ∧
    (s.templateFails e tg f).refs = s.refs ∧ (s.templateFails e tg f).sm = s.sm ∧
    (s.templateFails e tg f).cw = s.cw ∧ (s.templateFails e tg f).eu = s.eu ∧
    (s.templateFails e tg f).tb = s.tb ∧ (s.templateFails e tg f).hp = s.hp ∧
    (s.templateFails e tg f).avdd = s.avdd ∧ (s.templateFails e tg f).resetAsserted = s.resetAsserted ∧
    (s.templateFails e tg f).draws = s.draws ∧ (s.templateFails e tg f).pending = s.pending ∧
    (∀ i, (s.templateFails e tg f).ring i = s.ring i) ∧ (∀ i, (s.templateFails e tg f).bank i = s.bank i) ∧
    (∀ i, (s.templateFails e tg f).cell i = s.cell i) ∧ (∀ i q, (s.templateFails e tg f).ref i q = s.ref i q) ∧
    (∀ i, (s.templateFails e tg f).holder i = s.holder i) := by
  simp [State.templateFails]

@[simp] theorem State.takeTemplateAnswer_frame (s : State) (e : Entry) (a : ReadAnswer) :
    (s.takeTemplateAnswer e a).cu = s.cu ∧ (s.takeTemplateAnswer e a).rings = s.rings ∧
    (s.takeTemplateAnswer e a).banks = s.banks ∧ (s.takeTemplateAnswer e a).cells = s.cells ∧
    (s.takeTemplateAnswer e a).refs = s.refs ∧ (s.takeTemplateAnswer e a).sm = s.sm ∧
    (s.takeTemplateAnswer e a).cw = s.cw ∧ (s.takeTemplateAnswer e a).eu = s.eu ∧
    (s.takeTemplateAnswer e a).tb = s.tb ∧ (s.takeTemplateAnswer e a).hp = s.hp ∧
    (s.takeTemplateAnswer e a).avdd = s.avdd ∧ (s.takeTemplateAnswer e a).resetAsserted = s.resetAsserted ∧
    (s.takeTemplateAnswer e a).draws = s.draws ∧ (s.takeTemplateAnswer e a).pending = s.pending ∧
    (∀ i, (s.takeTemplateAnswer e a).ring i = s.ring i) ∧ (∀ i, (s.takeTemplateAnswer e a).bank i = s.bank i) ∧
    (∀ i, (s.takeTemplateAnswer e a).cell i = s.cell i) ∧
    (∀ i q, (s.takeTemplateAnswer e a).ref i q = s.ref i q) ∧
    (∀ i, (s.takeTemplateAnswer e a).holder i = s.holder i) := by
  unfold State.takeTemplateAnswer
  repeat' split
  all_goals simp

@[simp] theorem State.admitAtOwner_frame (s : State) (b : Bank) (c : Candidate) :
    (s.admitAtOwner b c).cu = s.cu ∧ (s.admitAtOwner b c).fu = s.fu ∧ (s.admitAtOwner b c).cells = s.cells ∧
    (s.admitAtOwner b c).refs = s.refs ∧ (s.admitAtOwner b c).sm = s.sm ∧ (s.admitAtOwner b c).cw = s.cw ∧
    (s.admitAtOwner b c).eu = s.eu ∧ (s.admitAtOwner b c).tb = s.tb ∧ (s.admitAtOwner b c).avdd = s.avdd ∧
    (s.admitAtOwner b c).resetAsserted = s.resetAsserted ∧ (s.admitAtOwner b c).draws = s.draws ∧
    (s.admitAtOwner b c).pending = s.pending ∧ (∀ i, (s.admitAtOwner b c).cell i = s.cell i) ∧
    (∀ i q, (s.admitAtOwner b c).ref i q = s.ref i q) ∧ (∀ i, (s.admitAtOwner b c).holder i = s.holder i) := by
  unfold State.admitAtOwner
  split <;> simp

@[simp] theorem State.joinQueue_frame (s : State) (b : Bank) (c : Candidate) :
    (s.joinQueue b c).cu = s.cu ∧ (s.joinQueue b c).rings = s.rings ∧ (s.joinQueue b c).fu = s.fu ∧
    (s.joinQueue b c).cells = s.cells ∧ (s.joinQueue b c).refs = s.refs ∧ (s.joinQueue b c).sm = s.sm ∧
    (s.joinQueue b c).sched = s.sched ∧ (s.joinQueue b c).cw = s.cw ∧ (s.joinQueue b c).eu = s.eu ∧
    (s.joinQueue b c).tb = s.tb ∧ (s.joinQueue b c).hp = s.hp ∧ (s.joinQueue b c).avdd = s.avdd ∧
    (s.joinQueue b c).resetAsserted = s.resetAsserted ∧ (s.joinQueue b c).draws = s.draws ∧
    (s.joinQueue b c).pending = s.pending ∧ (∀ i, (s.joinQueue b c).ring i = s.ring i) ∧
    (∀ i, (s.joinQueue b c).cell i = s.cell i) ∧ (∀ i q, (s.joinQueue b c).ref i q = s.ref i q) ∧
    (∀ i, (s.joinQueue b c).entry i = s.entry i) ∧ (∀ i, (s.joinQueue b c).holder i = s.holder i) := by
  simp [State.joinQueue]

@[simp] theorem State.admitCandidate_frame (s : State) (b : Bank) (c : Candidate) :
    (s.admitCandidate b c).cu = s.cu ∧ (s.admitCandidate b c).fu = s.fu ∧ (s.admitCandidate b c).cw = s.cw ∧
    (s.admitCandidate b c).eu = s.eu ∧ (s.admitCandidate b c).tb = s.tb ∧
    (s.admitCandidate b c).avdd = s.avdd ∧ (s.admitCandidate b c).resetAsserted = s.resetAsserted ∧
    (s.admitCandidate b c).pending = s.pending := by
  unfold State.admitCandidate
  split <;> simp

@[simp] theorem State.takeNext_frame (s : State) (b : Bank) :
    (s.takeNext b).cu = s.cu ∧ (s.takeNext b).fu = s.fu ∧ (s.takeNext b).cw = s.cw ∧ (s.takeNext b).eu = s.eu ∧
    (s.takeNext b).tb = s.tb ∧ (s.takeNext b).avdd = s.avdd ∧ (s.takeNext b).resetAsserted = s.resetAsserted ∧
    (s.takeNext b).pending = s.pending := by
  unfold State.takeNext
  repeat' split
  all_goals simp

@[simp] theorem State.stopCells_frame (s : State) :
    (s.stopCells).cu = s.cu ∧ (s.stopCells).rings = s.rings ∧ (s.stopCells).fu = s.fu ∧
    (s.stopCells).banks = s.banks ∧ (s.stopCells).refs = s.refs ∧ (s.stopCells).sm = s.sm ∧
    (s.stopCells).sched = s.sched ∧ (s.stopCells).cw = s.cw ∧ (s.stopCells).eu = s.eu ∧
    (s.stopCells).tb = s.tb ∧ (s.stopCells).hp = s.hp ∧ (s.stopCells).avdd = s.avdd ∧
    (s.stopCells).resetAsserted = s.resetAsserted ∧ (s.stopCells).draws = s.draws ∧
    (s.stopCells).pending = s.pending ∧ (∀ i, (s.stopCells).ring i = s.ring i) ∧
    (∀ i, (s.stopCells).bank i = s.bank i) ∧ (∀ i q, (s.stopCells).ref i q = s.ref i q) ∧
    (∀ i, (s.stopCells).entry i = s.entry i) ∧ (∀ i, (s.stopCells).holder i = s.holder i) := by
  exact ⟨rfl, rfl, rfl, rfl, rfl, rfl, rfl, rfl, rfl, rfl, rfl, rfl, rfl, rfl, rfl, fun _ => rfl, fun _ => rfl, fun _ _ => rfl, fun _ => rfl, fun _ => rfl⟩

@[simp] theorem State.faultRefs_frame (s : State) :
    (s.faultRefs).cu = s.cu ∧ (s.faultRefs).rings = s.rings ∧ (s.faultRefs).fu = s.fu ∧
    (s.faultRefs).banks = s.banks ∧ (s.faultRefs).cells = s.cells ∧ (s.faultRefs).sm = s.sm ∧
    (s.faultRefs).sched = s.sched ∧ (s.faultRefs).cw = s.cw ∧ (s.faultRefs).eu = s.eu ∧
    (s.faultRefs).tb = s.tb ∧ (s.faultRefs).hp = s.hp ∧ (s.faultRefs).avdd = s.avdd ∧
    (s.faultRefs).resetAsserted = s.resetAsserted ∧ (s.faultRefs).draws = s.draws ∧
    (s.faultRefs).pending = s.pending ∧ (∀ i, (s.faultRefs).ring i = s.ring i) ∧
    (∀ i, (s.faultRefs).bank i = s.bank i) ∧ (∀ i, (s.faultRefs).cell i = s.cell i) ∧
    (∀ i, (s.faultRefs).entry i = s.entry i) ∧ (∀ i, (s.faultRefs).holder i = s.holder i) := by
  exact ⟨rfl, rfl, rfl, rfl, rfl, rfl, rfl, rfl, rfl, rfl, rfl, rfl, rfl, rfl, rfl, fun _ => rfl, fun _ => rfl, fun _ => rfl, fun _ => rfl, fun _ => rfl⟩

@[simp] theorem State.faultBlocks_frame (s : State) :
    (s.faultBlocks).cu = s.cu ∧ (s.faultBlocks).eu = s.eu ∧ (s.faultBlocks).tb = s.tb ∧
    (s.faultBlocks).hp = s.hp ∧ (s.faultBlocks).avdd = s.avdd ∧
    (s.faultBlocks).resetAsserted = s.resetAsserted ∧ (s.faultBlocks).draws = s.draws ∧
    (s.faultBlocks).pending = s.pending := by
  simp [State.faultBlocks]

@[simp] theorem State.enterFaulted_frame (s : State) (k : FaultCode) (a : BitVec 16) :
    (s.enterFaulted k a).tb = s.tb ∧ (s.enterFaulted k a).hp = s.hp ∧ (s.enterFaulted k a).avdd = s.avdd ∧
    (s.enterFaulted k a).resetAsserted = s.resetAsserted ∧ (s.enterFaulted k a).draws = s.draws ∧
    (s.enterFaulted k a).pending = s.pending := by
  simp [State.enterFaulted]

@[simp] theorem State.reportFault_frame (s : State) (k : FaultCode) (a : BitVec 16) :
    (s.reportFault k a).tb = s.tb ∧ (s.reportFault k a).hp = s.hp ∧ (s.reportFault k a).avdd = s.avdd ∧
    (s.reportFault k a).resetAsserted = s.resetAsserted ∧ (s.reportFault k a).draws = s.draws ∧
    (s.reportFault k a).pending = s.pending := by
  unfold State.reportFault
  split <;> simp

@[simp] theorem State.issueHeader_frame (s : State) (r : Record) :
    (s.issueHeader r).cu = s.cu ∧ (s.issueHeader r).rings = s.rings ∧ (s.issueHeader r).fu = s.fu ∧
    (s.issueHeader r).banks = s.banks ∧ (s.issueHeader r).cells = s.cells ∧ (s.issueHeader r).refs = s.refs ∧
    (s.issueHeader r).sm = s.sm ∧ (s.issueHeader r).sched = s.sched ∧ (s.issueHeader r).eu = s.eu ∧
    (s.issueHeader r).tb = s.tb ∧ (s.issueHeader r).avdd = s.avdd ∧
    (s.issueHeader r).resetAsserted = s.resetAsserted ∧ (s.issueHeader r).draws = s.draws ∧
    (s.issueHeader r).pending = s.pending ∧ (∀ i, (s.issueHeader r).ring i = s.ring i) ∧
    (∀ i, (s.issueHeader r).bank i = s.bank i) ∧ (∀ i, (s.issueHeader r).cell i = s.cell i) ∧
    (∀ i q, (s.issueHeader r).ref i q = s.ref i q) ∧ (∀ i, (s.issueHeader r).entry i = s.entry i) ∧
    (∀ i, (s.issueHeader r).holder i = s.holder i) := by
  exact ⟨rfl, rfl, rfl, rfl, rfl, rfl, rfl, rfl, rfl, rfl, rfl, rfl, rfl, rfl, fun _ => rfl, fun _ => rfl, fun _ => rfl, fun _ _ => rfl, fun _ => rfl, fun _ => rfl⟩

@[simp] theorem State.issueRecord_frame (s : State) (r : Record) :
    (s.issueRecord r).cu = s.cu ∧ (s.issueRecord r).rings = s.rings ∧ (s.issueRecord r).fu = s.fu ∧
    (s.issueRecord r).banks = s.banks ∧ (s.issueRecord r).cells = s.cells ∧ (s.issueRecord r).refs = s.refs ∧
    (s.issueRecord r).sm = s.sm ∧ (s.issueRecord r).sched = s.sched ∧ (s.issueRecord r).eu = s.eu ∧
    (s.issueRecord r).tb = s.tb ∧ (s.issueRecord r).avdd = s.avdd ∧
    (s.issueRecord r).resetAsserted = s.resetAsserted ∧ (s.issueRecord r).draws = s.draws ∧
    (s.issueRecord r).pending = s.pending ∧ (∀ i, (s.issueRecord r).ring i = s.ring i) ∧
    (∀ i, (s.issueRecord r).bank i = s.bank i) ∧ (∀ i, (s.issueRecord r).cell i = s.cell i) ∧
    (∀ i q, (s.issueRecord r).ref i q = s.ref i q) ∧ (∀ i, (s.issueRecord r).entry i = s.entry i) ∧
    (∀ i, (s.issueRecord r).holder i = s.holder i) := by
  unfold State.issueRecord
  split <;> exact ⟨rfl, rfl, rfl, rfl, rfl, rfl, rfl, rfl, rfl, rfl, rfl, rfl, rfl, rfl, fun _ => rfl, fun _ => rfl, fun _ => rfl, fun _ _ => rfl, fun _ => rfl, fun _ => rfl⟩

@[simp] theorem State.grantNext_frame (s : State) :
    (s.grantNext).cu = s.cu ∧ (s.grantNext).rings = s.rings ∧ (s.grantNext).fu = s.fu ∧
    (s.grantNext).banks = s.banks ∧ (s.grantNext).cells = s.cells ∧ (s.grantNext).refs = s.refs ∧
    (s.grantNext).sm = s.sm ∧ (s.grantNext).sched = s.sched ∧ (s.grantNext).tb = s.tb ∧
    (s.grantNext).avdd = s.avdd ∧ (s.grantNext).resetAsserted = s.resetAsserted ∧
    (s.grantNext).draws = s.draws ∧ (s.grantNext).pending = s.pending ∧
    (∀ i, (s.grantNext).ring i = s.ring i) ∧ (∀ i, (s.grantNext).bank i = s.bank i) ∧
    (∀ i, (s.grantNext).cell i = s.cell i) ∧ (∀ i q, (s.grantNext).ref i q = s.ref i q) ∧
    (∀ i, (s.grantNext).entry i = s.entry i) ∧ (∀ i, (s.grantNext).holder i = s.holder i) := by
  unfold State.grantNext State.spaceCheck
  split
  · split
    · simp
    · dsimp only
      split
      · rename_i h
        split at h
        · simp only [Option.some.injEq] at h
          subst h
          simp [State.ring, State.bank, State.cell, State.ref, State.entry, State.holder]
        · simp at h
      · simp [State.ring, State.bank, State.cell, State.ref, State.entry, State.holder]
  · simp

@[simp] theorem State.sourceNotice_frame (s : State) (c : Source) :
    (s.sourceNotice c).cu = s.cu ∧ (s.sourceNotice c).banks = s.banks ∧ (s.sourceNotice c).cells = s.cells ∧
    (s.sourceNotice c).refs = s.refs ∧ (s.sourceNotice c).sm = s.sm ∧ (s.sourceNotice c).cw = s.cw ∧
    (s.sourceNotice c).eu = s.eu ∧ (s.sourceNotice c).tb = s.tb ∧ (s.sourceNotice c).hp = s.hp ∧
    (s.sourceNotice c).avdd = s.avdd ∧ (s.sourceNotice c).resetAsserted = s.resetAsserted ∧
    (s.sourceNotice c).draws = s.draws ∧ (s.sourceNotice c).pending = s.pending ∧
    (∀ i, (s.sourceNotice c).bank i = s.bank i) ∧ (∀ i, (s.sourceNotice c).cell i = s.cell i) ∧
    (∀ i q, (s.sourceNotice c).ref i q = s.ref i q) ∧ (∀ i, (s.sourceNotice c).holder i = s.holder i) := by
  unfold State.sourceNotice
  split <;> simp

@[simp] theorem State.errorNotice_frame (s : State) (c : Source) :
    (s.errorNotice c).cu = s.cu ∧ (s.errorNotice c).rings = s.rings ∧ (s.errorNotice c).fu = s.fu ∧
    (s.errorNotice c).banks = s.banks ∧ (s.errorNotice c).cells = s.cells ∧ (s.errorNotice c).refs = s.refs ∧
    (s.errorNotice c).sm = s.sm ∧ (s.errorNotice c).cw = s.cw ∧ (s.errorNotice c).eu = s.eu ∧
    (s.errorNotice c).tb = s.tb ∧ (s.errorNotice c).hp = s.hp ∧ (s.errorNotice c).avdd = s.avdd ∧
    (s.errorNotice c).resetAsserted = s.resetAsserted ∧ (s.errorNotice c).draws = s.draws ∧
    (s.errorNotice c).pending = s.pending ∧ (∀ i, (s.errorNotice c).ring i = s.ring i) ∧
    (∀ i, (s.errorNotice c).bank i = s.bank i) ∧ (∀ i, (s.errorNotice c).cell i = s.cell i) ∧
    (∀ i q, (s.errorNotice c).ref i q = s.ref i q) ∧ (∀ i, (s.errorNotice c).holder i = s.holder i) := by
  unfold State.errorNotice
  split <;> simp

@[simp] theorem State.postingNotices_frame (s : State) (g : Granted) :
    (s.postingNotices g).cu = s.cu ∧ (s.postingNotices g).cw = s.cw ∧ (s.postingNotices g).eu = s.eu ∧
    (s.postingNotices g).tb = s.tb ∧ (s.postingNotices g).avdd = s.avdd ∧
    (s.postingNotices g).resetAsserted = s.resetAsserted ∧ (s.postingNotices g).pending = s.pending := by
  unfold State.postingNotices
  split <;> simp

@[simp] theorem State.postRecord_frame (s : State) (g : Granted) :
    (s.postRecord g).cu = s.cu ∧ (s.postRecord g).tb = s.tb ∧ (s.postRecord g).avdd = s.avdd ∧
    (s.postRecord g).resetAsserted = s.resetAsserted ∧ (s.postRecord g).pending = s.pending := by
  simp [State.postRecord]

@[simp] theorem State.afterFollowing_frame (s : State) :
    (s.afterFollowing).cu = s.cu ∧ (s.afterFollowing).rings = s.rings ∧ (s.afterFollowing).fu = s.fu ∧
    (s.afterFollowing).banks = s.banks ∧ (s.afterFollowing).cells = s.cells ∧
    (s.afterFollowing).refs = s.refs ∧ (s.afterFollowing).sm = s.sm ∧ (s.afterFollowing).sched = s.sched ∧
    (s.afterFollowing).eu = s.eu ∧ (s.afterFollowing).tb = s.tb ∧ (s.afterFollowing).avdd = s.avdd ∧
    (s.afterFollowing).resetAsserted = s.resetAsserted ∧ (s.afterFollowing).draws = s.draws ∧
    (s.afterFollowing).pending = s.pending ∧ (∀ i, (s.afterFollowing).ring i = s.ring i) ∧
    (∀ i, (s.afterFollowing).bank i = s.bank i) ∧ (∀ i, (s.afterFollowing).cell i = s.cell i) ∧
    (∀ i q, (s.afterFollowing).ref i q = s.ref i q) ∧ (∀ i, (s.afterFollowing).entry i = s.entry i) ∧
    (∀ i, (s.afterFollowing).holder i = s.holder i) := by
  unfold State.afterFollowing
  repeat' split
  all_goals simp

@[simp] theorem State.afterHeader_frame (s : State) :
    (s.afterHeader).cu = s.cu ∧ (s.afterHeader).tb = s.tb ∧ (s.afterHeader).avdd = s.avdd ∧
    (s.afterHeader).resetAsserted = s.resetAsserted ∧ (s.afterHeader).pending = s.pending := by
  unfold State.afterHeader
  repeat' split
  all_goals simp

@[simp] theorem State.retestStall_frame (s : State) :
    (s.retestStall).cu = s.cu ∧ (s.retestStall).rings = s.rings ∧ (s.retestStall).fu = s.fu ∧
    (s.retestStall).banks = s.banks ∧ (s.retestStall).cells = s.cells ∧ (s.retestStall).refs = s.refs ∧
    (s.retestStall).sm = s.sm ∧ (s.retestStall).sched = s.sched ∧ (s.retestStall).eu = s.eu ∧
    (s.retestStall).tb = s.tb ∧ (s.retestStall).avdd = s.avdd ∧
    (s.retestStall).resetAsserted = s.resetAsserted ∧ (s.retestStall).draws = s.draws ∧
    (s.retestStall).pending = s.pending ∧ (∀ i, (s.retestStall).ring i = s.ring i) ∧
    (∀ i, (s.retestStall).bank i = s.bank i) ∧ (∀ i, (s.retestStall).cell i = s.cell i) ∧
    (∀ i q, (s.retestStall).ref i q = s.ref i q) ∧ (∀ i, (s.retestStall).entry i = s.entry i) ∧
    (∀ i, (s.retestStall).holder i = s.holder i) := by
  unfold State.retestStall State.spaceCheck
  split
  · split
    · simp
    · split <;> simp
  · simp

@[simp] theorem State.writeCqHead_frame (s : State) (v : BitVec 32) :
    (s.writeCqHead v).cu = s.cu ∧ (s.writeCqHead v).rings = s.rings ∧ (s.writeCqHead v).fu = s.fu ∧
    (s.writeCqHead v).banks = s.banks ∧ (s.writeCqHead v).cells = s.cells ∧ (s.writeCqHead v).refs = s.refs ∧
    (s.writeCqHead v).sm = s.sm ∧ (s.writeCqHead v).sched = s.sched ∧ (s.writeCqHead v).tb = s.tb ∧
    (s.writeCqHead v).avdd = s.avdd ∧ (s.writeCqHead v).resetAsserted = s.resetAsserted ∧
    (s.writeCqHead v).draws = s.draws ∧ (s.writeCqHead v).pending = s.pending ∧
    (∀ i, (s.writeCqHead v).ring i = s.ring i) ∧ (∀ i, (s.writeCqHead v).bank i = s.bank i) ∧
    (∀ i, (s.writeCqHead v).cell i = s.cell i) ∧ (∀ i q, (s.writeCqHead v).ref i q = s.ref i q) ∧
    (∀ i, (s.writeCqHead v).entry i = s.entry i) ∧ (∀ i, (s.writeCqHead v).holder i = s.holder i) := by
  unfold State.writeCqHead
  repeat' split
  all_goals simp [State.ring, State.bank, State.cell, State.ref, State.entry, State.holder]

@[simp] theorem State.resetBlocks_frame (s : State) :
    (s.resetBlocks).avdd = s.avdd ∧ (s.resetBlocks).resetAsserted = s.resetAsserted ∧
    (s.resetBlocks).draws = s.draws ∧ (s.resetBlocks).pending = s.pending := by
  simp [State.resetBlocks]

@[simp] theorem State.endLoading_frame (s : State) (d : Bytes) :
    (s.endLoading d).cells = s.cells ∧ (s.endLoading d).refs = s.refs ∧ (s.endLoading d).sm = s.sm ∧
    (s.endLoading d).eu = s.eu ∧ (s.endLoading d).tb = s.tb ∧ (s.endLoading d).avdd = s.avdd ∧
    (s.endLoading d).resetAsserted = s.resetAsserted ∧ (s.endLoading d).draws = s.draws ∧
    (s.endLoading d).pending = s.pending ∧ (∀ i, (s.endLoading d).cell i = s.cell i) ∧
    (∀ i q, (s.endLoading d).ref i q = s.ref i q) ∧ (∀ i, (s.endLoading d).holder i = s.holder i) := by
  exact ⟨rfl, rfl, rfl, rfl, rfl, rfl, rfl, rfl, rfl, fun _ => rfl, fun _ _ => rfl, fun _ => rfl⟩

@[simp] theorem State.enterStopped_frame (s : State) :
    (s.enterStopped).rings = s.rings ∧ (s.enterStopped).fu = s.fu ∧ (s.enterStopped).banks = s.banks ∧
    (s.enterStopped).cells = s.cells ∧ (s.enterStopped).refs = s.refs ∧ (s.enterStopped).sm = s.sm ∧
    (s.enterStopped).sched = s.sched ∧ (s.enterStopped).cw = s.cw ∧ (s.enterStopped).tb = s.tb ∧
    (s.enterStopped).hp = s.hp ∧ (s.enterStopped).avdd = s.avdd ∧
    (s.enterStopped).resetAsserted = s.resetAsserted ∧ (s.enterStopped).draws = s.draws ∧
    (s.enterStopped).pending = s.pending ∧ (∀ i, (s.enterStopped).ring i = s.ring i) ∧
    (∀ i, (s.enterStopped).bank i = s.bank i) ∧ (∀ i, (s.enterStopped).cell i = s.cell i) ∧
    (∀ i q, (s.enterStopped).ref i q = s.ref i q) ∧ (∀ i, (s.enterStopped).entry i = s.entry i) ∧
    (∀ i, (s.enterStopped).holder i = s.holder i) := by
  simp [State.enterStopped]

@[simp] theorem State.drainIfComplete_frame (s : State) :
    (s.drainIfComplete).rings = s.rings ∧ (s.drainIfComplete).fu = s.fu ∧ (s.drainIfComplete).banks = s.banks ∧
    (s.drainIfComplete).cells = s.cells ∧ (s.drainIfComplete).refs = s.refs ∧ (s.drainIfComplete).sm = s.sm ∧
    (s.drainIfComplete).sched = s.sched ∧ (s.drainIfComplete).cw = s.cw ∧ (s.drainIfComplete).tb = s.tb ∧
    (s.drainIfComplete).hp = s.hp ∧ (s.drainIfComplete).avdd = s.avdd ∧
    (s.drainIfComplete).resetAsserted = s.resetAsserted ∧ (s.drainIfComplete).draws = s.draws ∧
    (s.drainIfComplete).pending = s.pending ∧ (∀ i, (s.drainIfComplete).ring i = s.ring i) ∧
    (∀ i, (s.drainIfComplete).bank i = s.bank i) ∧ (∀ i, (s.drainIfComplete).cell i = s.cell i) ∧
    (∀ i q, (s.drainIfComplete).ref i q = s.ref i q) ∧ (∀ i, (s.drainIfComplete).entry i = s.entry i) ∧
    (∀ i, (s.drainIfComplete).holder i = s.holder i) := by
  unfold State.drainIfComplete
  split <;> simp

@[simp] theorem State.enterStopping_frame (s : State) :
    (s.enterStopping).rings = s.rings ∧ (s.enterStopping).fu = s.fu ∧ (s.enterStopping).banks = s.banks ∧
    (s.enterStopping).cells = s.cells ∧ (s.enterStopping).refs = s.refs ∧ (s.enterStopping).sm = s.sm ∧
    (s.enterStopping).cw = s.cw ∧ (s.enterStopping).tb = s.tb ∧ (s.enterStopping).hp = s.hp ∧
    (s.enterStopping).avdd = s.avdd ∧ (s.enterStopping).resetAsserted = s.resetAsserted ∧
    (s.enterStopping).draws = s.draws ∧ (s.enterStopping).pending = s.pending ∧
    (∀ i, (s.enterStopping).ring i = s.ring i) ∧ (∀ i, (s.enterStopping).bank i = s.bank i) ∧
    (∀ i, (s.enterStopping).cell i = s.cell i) ∧ (∀ i q, (s.enterStopping).ref i q = s.ref i q) ∧
    (∀ i, (s.enterStopping).holder i = s.holder i) := by
  simp [State.enterStopping, State.ring, State.bank, State.cell, State.ref, State.holder]

@[simp] theorem State.setEnable_frame (s : State) (on : Bool) :
    (s.setEnable on).rings = s.rings ∧ (s.setEnable on).fu = s.fu ∧ (s.setEnable on).banks = s.banks ∧
    (s.setEnable on).cells = s.cells ∧ (s.setEnable on).refs = s.refs ∧ (s.setEnable on).sm = s.sm ∧
    (s.setEnable on).sched = s.sched ∧ (s.setEnable on).cw = s.cw ∧ (s.setEnable on).eu = s.eu ∧
    (s.setEnable on).tb = s.tb ∧ (s.setEnable on).hp = s.hp ∧ (s.setEnable on).avdd = s.avdd ∧
    (s.setEnable on).resetAsserted = s.resetAsserted ∧ (s.setEnable on).draws = s.draws ∧
    (s.setEnable on).pending = s.pending ∧ (∀ i, (s.setEnable on).ring i = s.ring i) ∧
    (∀ i, (s.setEnable on).bank i = s.bank i) ∧ (∀ i, (s.setEnable on).cell i = s.cell i) ∧
    (∀ i q, (s.setEnable on).ref i q = s.ref i q) ∧ (∀ i, (s.setEnable on).entry i = s.entry i) ∧
    (∀ i, (s.setEnable on).holder i = s.holder i) := by
  exact ⟨rfl, rfl, rfl, rfl, rfl, rfl, rfl, rfl, rfl, rfl, rfl, rfl, rfl, rfl, rfl, fun _ => rfl, fun _ => rfl, fun _ => rfl, fun _ _ => rfl, fun _ => rfl, fun _ => rfl⟩

@[simp] theorem State.enterLoading_frame (s : State) (q0 : ReturnState) :
    (s.enterLoading q0).tb = s.tb ∧ (s.enterLoading q0).avdd = s.avdd ∧
    (s.enterLoading q0).resetAsserted = s.resetAsserted ∧ (s.enterLoading q0).draws = s.draws ∧
    (s.enterLoading q0).pending = s.pending := by
  unfold State.enterLoading
  split <;> simp

@[simp] theorem State.takeSetupAnswer_frame (s : State) (a : ReadAnswer) :
    (s.takeSetupAnswer a).tb = s.tb ∧ (s.takeSetupAnswer a).avdd = s.avdd ∧
    (s.takeSetupAnswer a).resetAsserted = s.resetAsserted ∧ (s.takeSetupAnswer a).draws = s.draws ∧
    (s.takeSetupAnswer a).pending = s.pending := by
  unfold State.takeSetupAnswer
  repeat' split
  all_goals simp

@[simp] theorem State.writeEnable_frame (s : State) (on : Bool) :
    (s.writeEnable on).tb = s.tb ∧ (s.writeEnable on).avdd = s.avdd ∧
    (s.writeEnable on).resetAsserted = s.resetAsserted ∧ (s.writeEnable on).draws = s.draws ∧
    (s.writeEnable on).pending = s.pending := by
  unfold State.writeEnable
  repeat' split
  all_goals simp

@[simp] theorem State.enterResetting_frame (s : State) :
    (s.enterResetting).rings = s.rings ∧ (s.enterResetting).fu = s.fu ∧ (s.enterResetting).banks = s.banks ∧
    (s.enterResetting).refs = s.refs ∧ (s.enterResetting).sched = s.sched ∧ (s.enterResetting).cw = s.cw ∧
    (s.enterResetting).eu = s.eu ∧ (s.enterResetting).tb = s.tb ∧ (s.enterResetting).hp = s.hp ∧
    (s.enterResetting).avdd = s.avdd ∧ (s.enterResetting).resetAsserted = s.resetAsserted ∧
    (s.enterResetting).draws = s.draws ∧ (s.enterResetting).pending = s.pending ∧
    (∀ i, (s.enterResetting).ring i = s.ring i) ∧ (∀ i, (s.enterResetting).bank i = s.bank i) ∧
    (∀ i q, (s.enterResetting).ref i q = s.ref i q) ∧ (∀ i, (s.enterResetting).entry i = s.entry i) := by
  exact ⟨rfl, rfl, rfl, rfl, rfl, rfl, rfl, rfl, rfl, rfl, rfl, rfl, rfl, fun _ => rfl, fun _ => rfl, fun _ _ => rfl, fun _ => rfl⟩

@[simp] theorem State.resetIfQuiet_frame (s : State) :
    (s.resetIfQuiet).avdd = s.avdd ∧ (s.resetIfQuiet).resetAsserted = s.resetAsserted ∧
    (s.resetIfQuiet).draws = s.draws ∧ (s.resetIfQuiet).pending = s.pending := by
  unfold State.resetIfQuiet
  split <;> simp

@[simp] theorem State.writeSoftReset_frame (s : State) (on : Bool) :
    (s.writeSoftReset on).avdd = s.avdd ∧ (s.writeSoftReset on).resetAsserted = s.resetAsserted ∧
    (s.writeSoftReset on).draws = s.draws ∧ (s.writeSoftReset on).pending = s.pending := by
  unfold State.writeSoftReset
  split <;> simp

@[simp] theorem State.writeSetupAddr_frame (s : State) (a : Addr) :
    (s.writeSetupAddr a).rings = s.rings ∧ (s.writeSetupAddr a).fu = s.fu ∧
    (s.writeSetupAddr a).banks = s.banks ∧ (s.writeSetupAddr a).cells = s.cells ∧
    (s.writeSetupAddr a).refs = s.refs ∧ (s.writeSetupAddr a).sm = s.sm ∧
    (s.writeSetupAddr a).sched = s.sched ∧ (s.writeSetupAddr a).cw = s.cw ∧ (s.writeSetupAddr a).tb = s.tb ∧
    (s.writeSetupAddr a).hp = s.hp ∧ (s.writeSetupAddr a).avdd = s.avdd ∧
    (s.writeSetupAddr a).resetAsserted = s.resetAsserted ∧ (s.writeSetupAddr a).draws = s.draws ∧
    (s.writeSetupAddr a).pending = s.pending ∧ (∀ i, (s.writeSetupAddr a).ring i = s.ring i) ∧
    (∀ i, (s.writeSetupAddr a).bank i = s.bank i) ∧ (∀ i, (s.writeSetupAddr a).cell i = s.cell i) ∧
    (∀ i q, (s.writeSetupAddr a).ref i q = s.ref i q) ∧ (∀ i, (s.writeSetupAddr a).entry i = s.entry i) ∧
    (∀ i, (s.writeSetupAddr a).holder i = s.holder i) := by
  unfold State.writeSetupAddr
  split <;> exact ⟨rfl, rfl, rfl, rfl, rfl, rfl, rfl, rfl, rfl, rfl, rfl, rfl, rfl, rfl, fun _ => rfl, fun _ => rfl, fun _ => rfl, fun _ _ => rfl, fun _ => rfl, fun _ => rfl⟩

@[simp] theorem State.writeSetupAddrLo_frame (s : State) (v : BitVec 32) :
    (s.writeSetupAddrLo v).rings = s.rings ∧ (s.writeSetupAddrLo v).fu = s.fu ∧
    (s.writeSetupAddrLo v).banks = s.banks ∧ (s.writeSetupAddrLo v).cells = s.cells ∧
    (s.writeSetupAddrLo v).refs = s.refs ∧ (s.writeSetupAddrLo v).sm = s.sm ∧
    (s.writeSetupAddrLo v).sched = s.sched ∧ (s.writeSetupAddrLo v).cw = s.cw ∧
    (s.writeSetupAddrLo v).tb = s.tb ∧ (s.writeSetupAddrLo v).hp = s.hp ∧
    (s.writeSetupAddrLo v).avdd = s.avdd ∧ (s.writeSetupAddrLo v).resetAsserted = s.resetAsserted ∧
    (s.writeSetupAddrLo v).draws = s.draws ∧ (s.writeSetupAddrLo v).pending = s.pending ∧
    (∀ i, (s.writeSetupAddrLo v).ring i = s.ring i) ∧ (∀ i, (s.writeSetupAddrLo v).bank i = s.bank i) ∧
    (∀ i, (s.writeSetupAddrLo v).cell i = s.cell i) ∧ (∀ i q, (s.writeSetupAddrLo v).ref i q = s.ref i q) ∧
    (∀ i, (s.writeSetupAddrLo v).entry i = s.entry i) ∧ (∀ i, (s.writeSetupAddrLo v).holder i = s.holder i) := by
  simp [State.writeSetupAddrLo]

@[simp] theorem State.writeSetupAddrHi_frame (s : State) (v : BitVec 32) :
    (s.writeSetupAddrHi v).rings = s.rings ∧ (s.writeSetupAddrHi v).fu = s.fu ∧
    (s.writeSetupAddrHi v).banks = s.banks ∧ (s.writeSetupAddrHi v).cells = s.cells ∧
    (s.writeSetupAddrHi v).refs = s.refs ∧ (s.writeSetupAddrHi v).sm = s.sm ∧
    (s.writeSetupAddrHi v).sched = s.sched ∧ (s.writeSetupAddrHi v).cw = s.cw ∧
    (s.writeSetupAddrHi v).tb = s.tb ∧ (s.writeSetupAddrHi v).hp = s.hp ∧
    (s.writeSetupAddrHi v).avdd = s.avdd ∧ (s.writeSetupAddrHi v).resetAsserted = s.resetAsserted ∧
    (s.writeSetupAddrHi v).draws = s.draws ∧ (s.writeSetupAddrHi v).pending = s.pending ∧
    (∀ i, (s.writeSetupAddrHi v).ring i = s.ring i) ∧ (∀ i, (s.writeSetupAddrHi v).bank i = s.bank i) ∧
    (∀ i, (s.writeSetupAddrHi v).cell i = s.cell i) ∧ (∀ i q, (s.writeSetupAddrHi v).ref i q = s.ref i q) ∧
    (∀ i, (s.writeSetupAddrHi v).entry i = s.entry i) ∧ (∀ i, (s.writeSetupAddrHi v).holder i = s.holder i) := by
  simp [State.writeSetupAddrHi]

@[simp] theorem State.writeEventCause_frame (s : State) (v : BitVec 32) :
    (s.writeEventCause v).cu = s.cu ∧ (s.writeEventCause v).rings = s.rings ∧ (s.writeEventCause v).fu = s.fu ∧
    (s.writeEventCause v).banks = s.banks ∧ (s.writeEventCause v).cells = s.cells ∧
    (s.writeEventCause v).refs = s.refs ∧ (s.writeEventCause v).sm = s.sm ∧
    (s.writeEventCause v).sched = s.sched ∧ (s.writeEventCause v).cw = s.cw ∧ (s.writeEventCause v).tb = s.tb ∧
    (s.writeEventCause v).hp = s.hp ∧ (s.writeEventCause v).avdd = s.avdd ∧
    (s.writeEventCause v).resetAsserted = s.resetAsserted ∧ (s.writeEventCause v).draws = s.draws ∧
    (s.writeEventCause v).pending = s.pending ∧ (∀ i, (s.writeEventCause v).ring i = s.ring i) ∧
    (∀ i, (s.writeEventCause v).bank i = s.bank i) ∧ (∀ i, (s.writeEventCause v).cell i = s.cell i) ∧
    (∀ i q, (s.writeEventCause v).ref i q = s.ref i q) ∧ (∀ i, (s.writeEventCause v).entry i = s.entry i) ∧
    (∀ i, (s.writeEventCause v).holder i = s.holder i) := by
  unfold State.writeEventCause
  split <;> exact ⟨rfl, rfl, rfl, rfl, rfl, rfl, rfl, rfl, rfl, rfl, rfl, rfl, rfl, rfl, rfl, fun _ => rfl, fun _ => rfl, fun _ => rfl, fun _ _ => rfl, fun _ => rfl, fun _ => rfl⟩

@[simp] theorem State.writeEventMask_frame (s : State) (v : BitVec 32) :
    (s.writeEventMask v).cu = s.cu ∧ (s.writeEventMask v).rings = s.rings ∧ (s.writeEventMask v).fu = s.fu ∧
    (s.writeEventMask v).banks = s.banks ∧ (s.writeEventMask v).cells = s.cells ∧
    (s.writeEventMask v).refs = s.refs ∧ (s.writeEventMask v).sm = s.sm ∧
    (s.writeEventMask v).sched = s.sched ∧ (s.writeEventMask v).cw = s.cw ∧ (s.writeEventMask v).tb = s.tb ∧
    (s.writeEventMask v).hp = s.hp ∧ (s.writeEventMask v).avdd = s.avdd ∧
    (s.writeEventMask v).resetAsserted = s.resetAsserted ∧ (s.writeEventMask v).draws = s.draws ∧
    (s.writeEventMask v).pending = s.pending ∧ (∀ i, (s.writeEventMask v).ring i = s.ring i) ∧
    (∀ i, (s.writeEventMask v).bank i = s.bank i) ∧ (∀ i, (s.writeEventMask v).cell i = s.cell i) ∧
    (∀ i q, (s.writeEventMask v).ref i q = s.ref i q) ∧ (∀ i, (s.writeEventMask v).entry i = s.entry i) ∧
    (∀ i, (s.writeEventMask v).holder i = s.holder i) := by
  unfold State.writeEventMask
  split <;> exact ⟨rfl, rfl, rfl, rfl, rfl, rfl, rfl, rfl, rfl, rfl, rfl, rfl, rfl, rfl, rfl, fun _ => rfl, fun _ => rfl, fun _ => rfl, fun _ _ => rfl, fun _ => rfl, fun _ => rfl⟩

@[simp] theorem State.writeControl_frame (s : State) (v : BitVec 32) :
    (s.writeControl v).avdd = s.avdd ∧ (s.writeControl v).resetAsserted = s.resetAsserted ∧
    (s.writeControl v).draws = s.draws ∧ (s.writeControl v).pending = s.pending := by
  unfold State.writeControl
  split <;> simp

@[simp] theorem State.writeWord_frame (s : State) (w : Nat) (v : BitVec 32) :
    (s.writeWord w v).avdd = s.avdd ∧ (s.writeWord w v).resetAsserted = s.resetAsserted ∧
    (s.writeWord w v).draws = s.draws ∧ (s.writeWord w v).pending = s.pending := by
  unfold State.writeWord
  split <;> simp

@[simp] theorem State.writeAccess_frame (s : State) (o : BitVec 6) (l : BitVec 4) (v : BitVec 32) :
    (s.writeAccess o l v).avdd = s.avdd ∧ (s.writeAccess o l v).resetAsserted = s.resetAsserted ∧
    (s.writeAccess o l v).draws = s.draws ∧ (s.writeAccess o l v).pending = s.pending := by
  unfold State.writeAccess
  split <;> simp

end Sys2Proof.Machine
end

