-- ==== Sys2Proof/Laws/Compose.lean ====
section
/-! SUPPORT. How the named updates compose: two writes of one place, writes of different places, and the claims and
releases at the end of a MEASURE past them; the first match of a search; the oldest write of a kind. -/
namespace Sys2Proof.Machine

open Sys2Proof

@[simp] theorem State.setRing_setRing (s : State) (n : Ring) (x y : SubRing) :
    (s.setRing n x).setRing n y = s.setRing n y := by simp [State.setRing]

@[simp] theorem State.setBank_setBank (s : State) (b : Bank) (x y : BankSeq) :
    (s.setBank b x).setBank b y = s.setBank b y := by simp [State.setBank]

@[simp] theorem State.setCell_setCell (s : State) (b : Bank) (x y : Cell) :
    (s.setCell b x).setCell b y = s.setCell b y := by simp [State.setCell]

@[simp] theorem State.setEntry_setEntry (s : State) (e : Entry) (x y : SchedEntry) :
    (s.setEntry e x).setEntry e y = s.setEntry e y := by simp [State.setEntry]

@[simp] theorem State.setHolder_setHolder (s : State) (b : Bank) (x y : Option Holder) :
    (s.setHolder b x).setHolder b y = s.setHolder b y := by simp [State.setHolder]

@[simp] theorem State.setRef_setRef (s : State) (b : Bank) (r : Ref) (x y : RefEntry) :
    (s.setRef b r x).setRef b r y = s.setRef b r y := by
  cases r <;> simp [State.setRef, RefPair.setEntry]

theorem whenReleased_keeps {β : Type} (g : State → β) (f : State → State) (h : ∀ s, g (f s) = g s)
    (s : State) :
    g (whenReleased f s) = g s := by
  unfold whenReleased; split
  · rfl
  · exact h s

@[simp] theorem State.setEntry_setBank (s : State) (b : Bank) (k : BankSeq) (e : Entry) (x : SchedEntry) :
    (s.setBank b k).setEntry e x = (s.setEntry e x).setBank b k := rfl

@[simp] theorem State.setCell_setBank (s : State) (b c : Bank) (k : BankSeq) (x : Cell) :
    (s.setBank b k).setCell c x = (s.setCell c x).setBank b k := rfl

@[simp] theorem State.setRef_setBank (s : State) (b c : Bank) (r : Ref) (k : BankSeq) (x : RefEntry) :
    (s.setBank b k).setRef c r x = (s.setRef c r x).setBank b k := rfl

@[simp] theorem State.setHolder_setBank (s : State) (b c : Bank) (k : BankSeq) (x : Option Holder) :
    (s.setBank b k).setHolder c x = (s.setHolder c x).setBank b k := rfl

theorem State.claimSkipped_setBank (s : State) (b : Bank) (k : BankSeq) (c : Source) :
    (s.setBank b k).claimSkipped c = (s.claimSkipped c).setBank b k := by cases c <;> rfl

theorem State.releaseHold_setBank (s : State) (b c : Bank) (k : BankSeq) :
    (s.setBank b k).releaseHold c = (s.releaseHold c).setBank b k := by
  unfold State.releaseHold; split <;> split <;> first
    | rfl
    | (rename_i h1 h2; exact absurd h1 h2)
    | (rename_i h1 h2; exact absurd h2 h1)

@[simp] theorem State.setBank_headDesc (s : State) (b : Bank) (k : BankSeq)
    (h : k.queue = (s.bank b).queue) (i : Bank) :
    (s.setBank b k).headDesc i = s.headDesc i := by
  unfold State.headDesc
  by_cases hb : b = i
  · subst hb; rw [State.setBank_bank_same, h]
  · rw [State.setBank_bank_of_ne _ hb]

@[simp] theorem State.setBank_headSource (s : State) (b : Bank) (k : BankSeq)
    (h : k.queue = (s.bank b).queue) (i : Bank) :
    (s.setBank b k).headSource i = s.headSource i := by
  unfold State.headSource
  by_cases hb : b = i
  · subst hb; rw [State.setBank_bank_same, h]
  · rw [State.setBank_bank_of_ne _ hb]

theorem State.releaseHold_eq (s : State) (b : Bank) : s.releaseHold b = { s with sm := (s.releaseHold b).sm } := by
  unfold State.releaseHold; split <;> rfl

theorem State.claimSkipped_eq (s : State) (c : Source) :
    s.claimSkipped c = { s with sched := (s.claimSkipped c).sched } := by
  cases c <;> rfl

theorem State.releaseHold_setRef (s : State) (b c : Bank) (r : Ref) (k : RefEntry) :
    (s.setRef b r k).releaseHold c = (s.releaseHold c).setRef b r k := by
  unfold State.releaseHold
  by_cases h : (s.holder c).isSome = true
  · rw [if_pos h, if_pos (by exact h)]; rfl
  · rw [if_neg h, if_neg (by exact h)]

theorem State.releaseHold_setCell (s : State) (b c : Bank) (k : Cell) :
    (s.setCell b k).releaseHold c = (s.releaseHold c).setCell b k := by
  unfold State.releaseHold
  by_cases h : (s.holder c).isSome = true
  · rw [if_pos h, if_pos (by exact h)]; rfl
  · rw [if_neg h, if_neg (by exact h)]

theorem State.claimSkipped_setRef (s : State) (b : Bank) (r : Ref) (k : RefEntry) (c : Source) :
    (s.setRef b r k).claimSkipped c = (s.claimSkipped c).setRef b r k := by cases c <;> rfl

theorem State.claimSkipped_setCell (s : State) (b : Bank) (k : Cell) (c : Source) :
    (s.setCell b k).claimSkipped c = (s.claimSkipped c).setCell b k := by cases c <;> rfl

/-- The four fields that the end of a MEASURE writes. -/
theorem State.end_eq (s : State) (b c b': Bank) (r : Ref) (e : RefEntry) (src : Source) (k : BankSeq) :
    (((s.releaseHold b).claimSkipped src).setRef c r e).setBank b' k =
    { s with
      refs := (s.setRef c r e).refs,
      sm := (s.releaseHold b).sm, sched := (s.claimSkipped src).sched,
      banks := s.banks.set b' k } := by
  rw [State.claimSkipped_eq, State.releaseHold_eq]
  cases src <;> rfl

theorem State.end_eq0 (s : State) (b b': Bank) (src : Source) (k : BankSeq) :
    (((s.releaseHold b).claimSkipped src)).setBank b' k =
    { s with
      sm := (s.releaseHold b).sm, sched := (s.claimSkipped src).sched,
      banks := s.banks.set b' k } := by
  rw [State.claimSkipped_eq, State.releaseHold_eq]
  cases src <;> rfl

theorem State.end_eqc (s : State) (b c b' b'': Bank) (r : Ref) (e : RefEntry) (src : Source) (k : BankSeq)
    (x : Cell) :
    ((((s.releaseHold b).claimSkipped src).setCell b'' x).setRef c r e).setBank b' k =
    { s with
      cells := (s.setCell b'' x).cells, refs := (s.setRef c r e).refs,
      sm := (s.releaseHold b).sm, sched := (s.claimSkipped src).sched,
      banks := s.banks.set b' k } := by
  rw [State.claimSkipped_eq, State.releaseHold_eq]
  cases src <;> rfl

@[simp] theorem State.skippedOf_setBank (s : State) (b : Bank) (k : BankSeq) (c : Source) :
    (s.setBank b k).skippedOf c = s.skippedOf c := by cases c <;> rfl

@[simp] theorem State.skippedOf_setRef (s : State) (b : Bank) (r : Ref) (k : RefEntry) (c : Source) :
    (s.setRef b r k).skippedOf c = s.skippedOf c := by cases c <;> rfl

@[simp] theorem State.skippedOf_setCell (s : State) (b : Bank) (k : Cell) (c : Source) :
    (s.setCell b k).skippedOf c = s.skippedOf c := by cases c <;> rfl

@[simp] theorem State.skippedOf_releaseHold (s : State) (b : Bank) (c : Source) :
    (s.releaseHold b).skippedOf c = s.skippedOf c := by cases c <;> simp [State.skippedOf]

theorem State.headDesc_of_banks {s t : State} (h : t.banks = s.banks) (b : Bank) :
    t.headDesc b = s.headDesc b := by
  simp [State.headDesc, State.bank, h]

theorem State.headSource_of_banks {s t : State} (h : t.banks = s.banks) (b : Bank) :
    t.headSource b = s.headSource b := by
  simp [State.headSource, State.bank, h]

@[simp] theorem State.releaseHold_headDesc (s : State) (b c : Bank) : (s.releaseHold c).headDesc b = s.headDesc b :=
  State.headDesc_of_banks (by simp) b

@[simp] theorem State.releaseHold_headSource (s : State) (b c : Bank) :
    (s.releaseHold c).headSource b = s.headSource b :=
  State.headSource_of_banks (by simp) b

@[simp] theorem State.releaseHold_now (s : State) (c : Bank) : (s.releaseHold c).now = s.now := by
  simp [State.now]

theorem Kind.measure_code : Kind.measure.code = 1#8 := rfl

theorem State.eq_but_refs {s t : State} (h1 : t.cu = s.cu) (h2 : t.rings = s.rings) (h3 : t.fu = s.fu)
    (h4 : t.banks = s.banks)
    (h5 : t.cells = s.cells) (h6 : t.sm = s.sm) (h7 : t.sched = s.sched) (h8 : t.cw = s.cw) (h9 : t.eu = s.eu)
    (h10 : t.tb = s.tb)
    (h11 : t.hp = s.hp) (h12 : t.avdd = s.avdd) (h13 : t.resetAsserted = s.resetAsserted) (h14 : t.draws = s.draws)
    (h15 : t.pending = s.pending) :
    t = { s with refs := t.refs } := by
  cases t; cases s; simp at *; simp [*]

theorem State.supplyLowNotice_ref (s : State) (b c : Bank) (r : Ref) :
    (s.supplyLowNotice b).ref c r = if b = c then (s.ref c r).supplyLow else s.ref c r := by
  by_cases h : b = c
  · subst h; cases r <;> simp [State.supplyLowNotice, State.setRef_ref]
  · simp [State.supplyLowNotice, h, State.setRef_ref]

/-- A grant sent is taken or stays in flight (log 6). -/
theorem State.sendGrant_cases (s : State) (b : Bank) :
    s.sendGrant b = { s with draws := s.draws + 1 }.takeGrant b ∨ s.sendGrant b = { s with draws := s.draws + 1 } := by
  unfold State.sendGrant
  dsimp only
  split <;> simp

/-- A notice sent is taken or stays in flight (log 6). -/
theorem State.sendNotice_cases (s : State) (b : Bank) :
    s.sendNotice b = { s with draws := s.draws + 1 }.supplyLowNotice b ∨
    s.sendNotice b = { s with draws := s.draws + 1 }.holdNotice b := by
  unfold State.sendNotice
  dsimp only
  split <;> simp

/-- The end of a MEASURE is taken or stays in flight (log 6). -/
theorem State.sendEnd_cases (s : State) (b : Bank) (k : MeasureEnd) :
    s.sendEnd b k = { s with draws := s.draws + 1 }.finish b k ∨
    s.sendEnd b k = { s with draws := s.draws + 1 }.mapContext b fun x => { x with endDue := some k } := by
  unfold State.sendEnd
  dsimp only
  split <;> simp

/-- With no end in flight, `deliverEnd` changes nothing. -/
theorem State.deliverEnd_none {s : State} {b : Bank} (h : s.endInFlight b = none) : s.deliverEnd b = s := by
  simp [State.deliverEnd, h]

/-- An end in flight is taken with its mark cleared. -/
theorem State.deliverEnd_some {s : State} {b : Bank} {k : MeasureEnd} (h : s.endInFlight b = some k) :
    s.deliverEnd b = (s.mapContext b fun x => { x with endDue := none }).finish b k := by
  simp [State.deliverEnd, h]

theorem State.endInFlight_eq_some {s : State} {b : Bank} {k : MeasureEnd} :
    s.endInFlight b = some k ↔
      ∃ x, (s.bank b).context = some x ∧ x.endDue = some k ∧ s.working = true ∧
        k.fits (s.bank b).seq = true := by
  unfold State.endInFlight
  cases (s.bank b).context <;> simp [Option.filter_eq_some_iff]

/-! ### In RESETTING the sequencers take nothing (03:R68, 10:R162) -/

/-- Outside RUNNING and STOPPING no end is in flight. -/
theorem State.endInFlight_idle {s : State} (h : s.working = false) (b : Bank) : s.endInFlight b = none := by
  unfold State.endInFlight
  cases (s.bank b).context <;> simp [h]

/-- Outside RUNNING and STOPPING no grant is taken. -/
theorem State.deliverGrant_idle {s : State} (h : s.working = false) (b : Bank) : s.deliverGrant b = s := by
  simp [State.deliverGrant, State.grantDue, h]

/-- Outside RUNNING and STOPPING only a supply-low notice is taken. -/
theorem State.deliverBank_idle {s : State} (h : s.working = false) (b : Bank) :
    s.deliverBank b = s.deliverNotice b := by
  have hn : (s.deliverNotice b).working = false := h
  simp [State.deliverBank, State.deliverEnd_none (State.endInFlight_idle hn b), State.deliverGrant_idle hn]

/-- RESETTING is neither RUNNING nor STOPPING. -/
theorem State.working_of_resetting {s : State} (h : s.cu.state = .resetting) : s.working = false := by
  simp [State.working, h]

theorem State.setBank_self (s : State) (b : Bank) : s.setBank b (s.bank b) = s := by
  simp [State.setBank, State.bank]

/-! ### The controller works -/

theorem State.working_of_state {s : State} (h : s.cu.state = .running ∨ s.cu.state = .stopping) :
    s.working = true := by
  rcases h with h | h <;> simp [State.working, h]

/-- The descriptor of its kind that stands STAGED is the one carried out. -/
theorem State.stagedKind_eq (s : State) (n : Ring) (k : Kind) (d : Bytes)
    (hw : s.cu.state = .running ∨ s.cu.state = .stopping) (hs : (s.ring n).state = .staged)
    (hd : (s.ring n).staging = some d) (hk : descKind d = k.code) : s.stagedKind n k = some d := by
  simp [State.stagedKind, State.working_of_state hw, hs, hd, Option.filter, hk]

/-! ### Moves of AVDD (05:R83) -/

theorem SupplyMonitor.readingAt_off (m : SupplyMonitor) (mv : Nat) (h : m.state = .off) :
    m.readingAt mv = m.reading := if_pos h

theorem SupplyMonitor.readingAt_low (m : SupplyMonitor) (mv : Nat) (h : m.state ≠ .off)
    (hl : mv < thresholdMv m.level) : m.readingAt mv = some .low := by
  simp [SupplyMonitor.readingAt, h, hl]

theorem SupplyMonitor.readingAt_high (m : SupplyMonitor) (mv : Nat) (h : m.state ≠ .off)
    (hh : thresholdMv m.level + hysteresisMv < mv) : m.readingAt mv = some .high := by
  have : ¬ mv < thresholdMv m.level := by omega
  simp [SupplyMonitor.readingAt, h, hh, this]

theorem SupplyMonitor.readingAt_between (m : SupplyMonitor) (mv : Nat) (hl : thresholdMv m.level ≤ mv)
    (hh : mv ≤ thresholdMv m.level + hysteresisMv) : m.readingAt mv = m.reading := by
  simp [SupplyMonitor.readingAt, Nat.not_lt.2 hl, Nat.not_lt.2 hh]

/-- Everything a move of AVDD with RESET_N released can do: a low transition, or the pin and the reading alone. -/
theorem State.pinAvdd_cases (s : State) (mv : Nat) (h : s.resetAsserted = false) :
    (s.sm.state = .watching ∧ s.sm.reading = some .high ∧ mv < thresholdMv s.sm.level ∧
      s.pinAvdd mv = (s.setAvdd mv).lowTransitionEffects) ∨
    (¬ (s.sm.state = .watching ∧ s.sm.reading = some .high ∧ mv < thresholdMv s.sm.level) ∧
      s.pinAvdd mv = s.setAvdd mv) := by
  by_cases hp : s.lowTransitionPossible mv = true
  · have := hp
    simp only [State.lowTransitionPossible, Bool.and_eq_true, beq_iff_eq, decide_eq_true_eq] at this
    exact .inl ⟨this.1.1, this.1.2, this.2, by simp [State.pinAvdd, State.moveAvdd, h, hp]⟩
  · refine .inr ⟨fun ⟨h1, h2, h3⟩ => hp ?_, by simp [State.pinAvdd, State.moveAvdd, h, hp]⟩
    simp [State.lowTransitionPossible, h1, h2, h3]

/-! ### Detail words (07 section 7.4.8) -/

theorem bankDetail_eq (enabled : Bool) (lifetime : BitVec 16) :
    bankDetail enabled lifetime = detailBytes (if enabled then 1 else 0) 0 (lifetime.extractLsb' 0 8)
      (lifetime.extractLsb' 8 8) := by
  have low : lifetime.setWidth 8 = lifetime.extractLsb' 0 8 := by
    apply BitVec.eq_of_toNat_eq; simp
  have high : (lifetime >>> 8).setWidth 8 = lifetime.extractLsb' 8 8 := by
    apply BitVec.eq_of_toNat_eq; simp
  rw [bankDetail, low, high]

theorem measureDetail_none (n : Nat) : measureDetail .none n = detailBytes 0 (BitVec.ofNat 8 n) 0 0 := rfl

theorem measureDetail_timeout (n : Nat) : measureDetail .timeout n = detailBytes 1 (BitVec.ofNat 8 n) 0 0 := rfl

theorem measureDetail_supplyLow (n : Nat) : measureDetail .supplyLow n = detailBytes 2 (BitVec.ofNat 8 n) 0 0 := rfl

/-! ### Searches -/

/-- What an arbiter's first match says: it matches, and nothing before it does. -/
theorem findSome_first {α β : Type} (f : α → Option β) (l : List α) (c : β) (h : l.findSome? f = some c) :
    ∃ before a after, l = before ++ a :: after ∧ f a = some c ∧ ∀ x ∈ before, f x = none := by
  induction l with
  | nil => simp at h
  | cons x xs ih =>
    rw [List.findSome?_cons] at h
    cases hx : f x with
    | some d => simp [hx] at h; subst h; exact ⟨[], x, xs, rfl, hx, by simp⟩
    | none =>
      simp [hx] at h
      obtain ⟨bf, a, af, h1, h2, h3⟩ := ih h
      exact ⟨x :: bf, a, af, by simp [h1], h2, by simpa [hx] using h3⟩

/-- One row of a list of checks. -/
theorem find_check_cons {α : Type} (c : α) (p : Bool) (l : List (α × Bool)) :
    ((c, p) :: l).find? (fun x => x.2) = if p then some (c, p) else l.find? (fun x => x.2) := by
  cases p <;> simp

/-- The oldest write of a kind is taken. -/
theorem takeWrite_oldest (k : WriteKind) (before after : List BusWrite) (w : BusWrite)
    (h1 : ∀ u ∈ before, u.kind ≠ k) (h2 : w.kind = k) :
    takeWrite k 0 (before ++ w :: after) = some (w, before ++ after) := by
  induction before with
  | nil => simp [takeWrite, h2]
  | cons u us ih =>
    have := h1 u (by simp)
    simp [takeWrite, this, ih (fun x hx => h1 x (by simp [hx]))]

/-! ### Space -/

theorem State.spaceCheck_fits (t : State) (r : Record) (h : r.slotCount ≤ t.cw.free) :
    t.spaceCheck r = some (t.issueRecord r) := if_pos h

theorem State.spaceCheck_stalls (t : State) (r : Record) (h : ¬ r.slotCount ≤ t.cw.free) :
    t.spaceCheck r = none := if_neg h

/-! ### Bit fields -/

theorem submitTail_eq (v : BitVec 32) : submitTail v = v.extractLsb' 0 16 := by
  apply BitVec.eq_of_toNat_eq; simp [submitTail]

theorem submitRing_eq (v : BitVec 32) : submitRing v = Fin.ofNat 4 (v.extractLsb' 16 2).toNat := by
  apply Fin.ext; simp [submitRing, Nat.shiftRight_eq_div_pow]

theorem windowWord_eq (o : BitVec 6) : windowWord o = o.toNat / 4 := by
  simp [windowWord, Nat.shiftRight_eq_div_pow]

end Sys2Proof.Machine
end

