-- ==== Sys2Proof/Tests/Slice0.lean ====
section
/-! SUPPORT. Tests: the ill-formed commands, one or two small steps of every command with values of the manual's worked
examples, and for every statement a state and operands that meet its hypotheses. -/
namespace Sys2Proof.Tests

open Sys2Proof Sys2Proof.Machine

set_option maxRecDepth 4000

/-! ### Helpers -/

/-- The state after a command. -/
def after (c : Instr) (s : State) : State :=
  match exec c s with
  | .next t => t
  | .fault _ => s
  | .refused _ => s

/-- The `n` bytes of `x`, lowest first. -/
def bytesOf : Nat → Nat → Bytes
  | 0, _ => []
  | n + 1, x => BitVec.ofNat 8 x :: bytesOf n (x / 256)

/-- A 64-byte block that starts with `d`. -/
def block (d : Bytes) : Bytes := d ++ List.replicate (64 - d.length) 0

/-- A MEASURE with settle 25. -/
def measureOf (flags tag bank ref samples nRef low high : Nat) (channels : List Byte) : Bytes :=
  block (bytesOf 1 1 ++ bytesOf 1 flags ++ bytesOf 2 tag ++ bytesOf 1 bank ++ bytesOf 1 ref ++
    bytesOf 1 samples ++ bytesOf 1 25 ++ bytesOf 2 nRef ++ bytesOf 1 channels.length ++ bytesOf 1 0 ++
    bytesOf 4 low ++ bytesOf 4 high ++ channels)

/-- A descriptor of another kind. -/
def kindOfBytes (kind flags tag : Nat) (rest : Bytes) : Bytes :=
  block (bytesOf 1 kind ++ bytesOf 1 flags ++ bytesOf 2 tag ++ rest)

/-- The MEASURE of 01 section 1.11.1 on bank 1: reference A, N_ref 4096, channel 6, two samples. -/
def example1 : Bytes := measureOf 0 0x21 1 0 2 4096 0 0 [6]

/-- The MEASURE of 03 section 3.9.2 on bank 0: reference B, channels 2, 5, 2, two samples, limits. -/
def example2 : Bytes := measureOf 4 0x42 0 1 2 4096 100000 140000 [2, 5, 2]

/-- A setup block with a completion ring of 2^cq slots at 0x2000_4000 and SQ0 of 2^sq slots at `base`. -/
def setupOf (cq sq base : Nat) : Bytes :=
  block (bytesOf 8 0x20004000 ++ bytesOf 4 cq ++ bytesOf 4 sq ++ bytesOf 8 base ++ bytesOf 24 0 ++
    bytesOf 8 0x30000)

/-- The reset state in another controller state. -/
def inState (q : ControllerState) : State := State.reset.setControl q

/-- Bank `b`'s cell in a state. -/
def cellAt (q : CellState) (kind : WindowKind) (param gate ref sensor : Nat) : Cell :=
  { state := q, mux := .ref .a, kind := kind, param := BitVec.ofNat 24 param, settleCount := 3200,
    gateTimer := BitVec.ofNat 24 gate, refCounter := BitVec.ofNat 16 ref, sensorCounter := BitVec.ofNat 24 sensor }

/-- RUNNING with one cell set. -/
def withCell (c : Cell) : State := (inState .running).setCell 1 c

/-- A context of a taken MEASURE. -/
def contextAt (entryPos sampleNo failures : Nat) (lease : Option Lease) : Context :=
  { newContext 5000000 with
    hold := .granted, supplyFailures := failures, entryPos := entryPos, sampleNo := sampleNo, lease := lease,
    leaseHeld := lease.isSome }

/-- The lease of the reference example. -/
def exampleLease : Lease := { gate := 655360, nRef := 4096, generation := 1 }

/-- A queue entry from SQ2. -/
def queued (d : Bytes) (flushed : Bool) : QueueEntry := { desc := d, source := .ring 2, flushed := flushed }

/-- RUNNING with bank 1's sequencer in a state with a queue. -/
def withBank (q : SeqState) (ctx : Option Context) (queue : List QueueEntry) : State :=
  (inState .running).setBank 1 { BankSeq.reset with seq := q, context := ctx, queue := queue }

/-- A holder for bank 1 in a watching monitor. -/
def watching (s : State) (reading : Reading) (lowSeen : Bool) : State :=
  { s with sm := { s.sm with
    state := .watching, reading := some reading, holders := s.sm.holders.set 1 (some { status := .granted, lowSeen := lowSeen }) } }

/-- Bank 1 in a MEASURE of `example1`, its cell in the sense window of sample `k`. -/
def measuring (k gate count : Nat) (low : Bool) : State :=
  ((watching (withBank .measuring (some (contextAt 0 k 0 (some exampleLease))) [queued example1 false]) .high
    low).setRef 1 .a { RefEntry.reset with
      state := .valid, leased := true, gate := 655360, nRef := 4096, generation := 1 }).setCell 1
    { cellAt .senseWindow .sense 655360 gate 0 count with mux := .channel 6 }

/-- Bank 1 converting for `example1`, its cell in the reference window. -/
def converting (gate refCount failures : Nat) (low : Bool) : State :=
  ((watching (withBank .reference (some (contextAt 0 0 failures none)) [queued example1 false]) .high
    low).setRef 1 .a { RefEntry.reset with state := .converting }).setCell 1
    (cellAt .refWindow .reference 4096 gate refCount 0)

/-- Bank 1 measuring `example1` with its last sample judged and the end in flight (log 6). -/
def endingComplete (low : Bool) : State :=
  (measuring 2 0 0 low).mapContext 1 fun x => { x with endDue := some .complete }

/-- Bank 1 converting for `example1` with the conversion failed and the end in flight (log 6). -/
def endingFailed (reason : FailureReason) : State :=
  (converting 16777215 1 0 false).mapContext 1 fun x => { x with endDue := some (.failed reason) }

/-- RUNNING with SQ1 of 16 slots in a state with a staged descriptor. -/
def withRing (q : RingState) (d : Option Bytes) (tail outstanding : Nat) : State :=
  (inState .running).setRing 1 { SubRing.reset with
    base := 0x10000, size := 16, tail := BitVec.ofNat 16 tail, consumed := 40, state := q, staging := d,
    outstanding := outstanding, stagedAt := 77 }

/-- RUNNING with schedule entry 2 in a state, its expiry at 2,110,000 and the time base there. -/
def withEntry (q : SchedState) (skipped : Nat) : State :=
  { (inState .running).setEntry 2 { SchedEntry.reset with
      state := q, periodMs := 100, nextExpiry := 2110000, skipped := skipped, template := 0x41000 } with
    tb := { micros := 2110000, prescaler := 0 } }

/-- A record of `n` slots with the flags NOTIFY and LIMIT_HIT. -/
def recordOf (n : Nat) (status : RecordStatus) (source : Source) : Record :=
  { slotCount := n, kind := 1, status := status,
    flags := { RecordFlags.clear with notify := true, limitHit := true }, tag := 0x250, source := source, bank := 2,
    ref := .a, gate := 0, nRef := 0, generation := 0, startTime := 0, endTime := 0, detail := 0, channels := [],
    snapshot := [] }

/-- The completion ring of 08 section 8.9 with a tail, a head, and BS2 in POSTING with a record of `n` slots. -/
def completing (q : ControllerState) (tail head n : Nat) : State :=
  { (inState q).setBank 2 { BankSeq.reset with
      seq := .posting, queue := [queued example1 false],
      context := some { newContext 0 with record := some (recordOf n .success (.ring 0)) } } with
    cw := { CompletionWriter.reset with
      base := 0x20004000, size := 16, tail := BitVec.ofNat 16 tail, head := BitVec.ofNat 16 head, phase := true,
      pointer := .bs 1 } }

/-- The same with the grant and the writes in flight given. -/
def granted (q : ControllerState) (tail head n : Nat) (g : Grant) (ws : List BusWrite) : State :=
  let s := completing q tail head n
  { s with
    cw := { s.cw with grant := g, granted := some { requester := .bs 2, record := recordOf n .success (.ring 0) } },
    hp := { s.hp with writes := ws } }

/-- A write in flight at an address. -/
def writeAt (kind : WriteKind) (addr : Nat) : BusWrite := { kind := kind, addr := BitVec.ofNat 64 addr, bytes := [] }

/-- LOADING from OFF with the setup read in flight. -/
def loading (abandoned : Bool) : State :=
  { State.reset with
    cu := { State.reset.cu with state := .loading, enable := true, setupAddr := 0x10040, loadAbandoned := abandoned },
    hp := { State.reset.hp with setupRead := some 0x10040 } }

/-! ### Ill-formed commands -/

theorem test_illformed_ring_read_length : wellFormed (.ringReadAnswer (.okay [1, 2, 3])) = false := by decide

theorem test_illformed_template_read_length : wellFormed (.templateReadAnswer (.okay [])) = false := by decide

theorem test_illformed_setup_read_length :
    wellFormed (.setupReadAnswer (.okay (List.replicate 65 0))) = false := by decide

theorem test_illformed_low_transition_above_every_threshold : wellFormed (.lowTransition 4200) = false := by decide

theorem test_illformed_reads_low_above_every_threshold :
    wellFormed (.comparatorReadsLow 4200) = false := by decide

theorem test_illformed_reads_high_out_of_range :
    wellFormed (.comparatorReadsHigh 2750) = false ∧ wellFormed (.comparatorReadsHigh 5501) = false := by decide

theorem test_illformed_ninth_following_slot :
    wellFormed (.followingSlotWriteAnswer 8 .okay) = false := by decide

theorem test_illformed_write_not_ignored : wellFormed (.registerWriteIgnored 0x18 15 0) = false := by decide

theorem test_wellformed_write_with_lane_disabled : wellFormed (.registerWriteIgnored 0x18 14 0) = true := by decide

/-! ### The table gives no bits (log 18) -/

theorem test_no_row_has_a_word : decodeTableWord 8 0 = none := by decide

/-! ### Converter cells: 01 section 1.11.1 -/

theorem test_settle_delay_expires :
    ((after (.settleDelayExpiry 1) (withCell (cellAt .settling .reference 4096 3200 0 0))).cell 1).state = .awaitEdge ∧
    ((after (.settleDelayExpiry 1) (withCell (cellAt .settling .reference 4096 3199 0 0))).cell 1).state =
      .settling := by decide

theorem test_first_edge_loads_cycles :
    ((after (.firstEdge 1) (withCell (cellAt .awaitEdge .reference 4096 256 0 0))).cell 1).refCounter = 4096 ∧
    ((after (.firstEdge 1) (withCell (cellAt .awaitEdge .reference 4096 256 0 0))).cell 1).gateTimer = 0 := by decide

theorem test_first_edge_loads_gate :
    ((after (.firstEdge 1) (withCell (cellAt .awaitEdge .sense 655360 480 0 9))).cell 1).gateTimer = 655360 ∧
    ((after (.firstEdge 1) (withCell (cellAt .awaitEdge .sense 655360 480 0 9))).cell 1).sensorCounter = 0 := by decide

theorem test_start_timeout_is_open :
    (((after (.startTimeout 1) ((measuring 1 0 0 false).setCell 1
      (cellAt .awaitEdge .sense 655360 64000 0 0))).bank 1).context.map fun x => (x.acc.rejected, x.sampleNo)) =
      some (1, 2) := by decide

theorem test_ref_done_publishes :
    ((after (.refDone 1) (converting 655360 1 0 false)).ref 1 .a).gate = 655360 ∧
    ((after (.refDone 1) (converting 655360 1 0 false)).ref 1 .a).state = .valid ∧
    ((after (.refDone 1) (converting 655360 1 0 false)).ref 1 .a).generation = 1 ∧
    ((after (.refDone 1) (converting 655360 1 0 false)).bank 1).seq = .measuring := by decide

theorem test_ref_done_after_dip_is_retried :
    ((after (.refDone 1) (converting 655360 1 0 true)).ref 1 .a).state = .converting ∧
    ((after (.refDone 1) (converting 655360 1 0 true)).cell 1).state = .settling ∧
    ((after (.refDone 1) (converting 655360 1 0 true)).holder 1) = some { status := .granted, lowSeen := false } := by decide

theorem test_ref_timeout_fails :
    let t := (converting 16777215 34078 0 false).finish 1 (.failed .timeout)
    (t.ref 1 .a).state = .empty ∧
    ((t.bank 1).context.bind fun x => x.record.map fun r => r.status) = some .refFailed := by decide

theorem test_window_close_counts_sample :
    (((after (.senseWindowClose 1) (measuring 1 0 2048 false)).bank 1).context.map fun x => x.acc) =
      some { good := 1, rejected := 0, sum := 2048 } ∧
    ((after (.senseWindowClose 1) (measuring 1 0 2048 false)).cell 1).state = .awaitEdge := by decide

theorem test_last_window_forms_record :
    let s := (measuring 2 0 2048 false).mapContext 1 fun x =>
      (x.addSample (.good 2048) false).completeEntry example1 .ok
    let t := s.finish 1 .complete
    ((t.bank 1).context.bind fun x => x.record.map fun r => (r.status, r.channels.map fun c => (c.ratio, c.sum))) =
      some (.success, [(131072, 2048)]) ∧ t.sm.state = .off := by decide

/-- 05:R89, 04:R73: a low transition before the hold release, with the last flag read clear; its notice is taken before
the lease release, or after it. -/
theorem test_low_transition_meets_end :
    let s := endingComplete false
    let low := { s with sm := s.sm.markGranted }
    let before := (low.supplyLowNotice 1).deliverEnd 1
    let later := ((low.holdNotice 1).deliverEnd 1).deliverNotice 1
    ((before.bank 1).context.map fun x => (x.flags.refRevoked, x.flags.supplyLowSeen)) = some (true, false) ∧
    ((later.bank 1).context.map fun x => (x.flags.refRevoked, x.flags.supplyLowSeen)) = some (false, false) ∧
    (before.ref 1 .a).state = .empty ∧ (later.ref 1 .a).state = .empty ∧ later.holder 1 = none := by decide

/-- 02:R38: a notice in flight is taken before the bank's next hold request. -/
theorem test_notice_taken_before_next_hold :
    let e := { RefEntry.reset with state := .valid, generation := 1 }
    let t := (((inState .running).setRef 1 .b e).holdNotice 1).requestHold 1
    (t.ref 1 .b).state = .empty ∧ t.refs[1].noticeDue = false ∧ t.sm.state = .settling := by decide

/-- 03:R68, 10:R162: in RESETTING the end in flight is disregarded: no release, no record, and a STATE field that
stays MEASURING; in RUNNING it is taken. -/
theorem test_no_end_taken_in_resetting :
    let s := { endingComplete false with hp := { HostPort.reset with setupRead := some 0 } }
    let t := after .conversionClockTick (after (.softReset false) s)
    t.cu.state = .resetting ∧ (t.bank 1).seq = .measuring ∧ (t.ref 1 .a).leased = true ∧
    ((s.deliverBank 1).bank 1).seq = .posting := by decide

/-- 04:R73: an abort that meets the last outcome finds POSTING. -/
theorem test_abort_after_last_outcome :
    let t := (endingComplete false).abortBank 1
    (t.bank 1).seq = .posting ∧
    ((t.bank 1).context.bind fun x => x.record.map fun r => r.status) = some .success := by decide

theorem test_overflow_is_rejected :
    (((after (.overflow 1) (measuring 1 9 16777215 false)).bank 1).context.map fun x =>
      (x.acc.rejected, x.firstRejection)) = some (1, some .overflow) := by decide

theorem test_counted_edge :
    ((after (.countedEdge 1) (withCell (cellAt .refWindow .reference 4096 7 4096 0))).cell 1).refCounter = 4095 ∧
    ((after (.countedEdge 1) (withCell (cellAt .senseWindow .sense 4096 7 0 2047))).cell 1).sensorCounter =
      2048 := by decide

/-- 01:R12, 01:R13: with the gate timer at 0 the window closes with its count, and no edge counts or overflows. -/
theorem test_no_edge_at_gate_zero :
    ((after (.countedEdge 1) (withCell (cellAt .senseWindow .sense 4096 0 0 2047))).cell 1).sensorCounter = 2047 ∧
    ((after (.overflow 1) (withCell (cellAt .senseWindow .sense 4096 0 0 16777215))).cell 1).state = .senseWindow := by
  decide

/-! ### Ratios: 01 section 1.11.2, 04 section 4.8.1 -/

theorem test_ratios_of_examples :
    channelRatio 2048 3 4436 = 90769 ∧ channelRatio 2048 2 2958 = 90748 ∧ channelRatio 2048 1 1479 = 90748 ∧
    channelRatio 4096 1 1024 = 262144 ∧ channelRatio 64 1 16777215 = 0 := by decide

/-- 01:R21: a quotient of exactly 2^32, one below the condition, and no sum at all. -/
theorem test_ratio_saturates :
    channelRatio 32768 2 1 = 4294967295 ∧ ratioSaturates 32768 2 1 = true ∧
    channelRatio 65535 1 1 = 4294901760 ∧ ratioSaturates 65535 1 1 = false ∧
    channelRatio 64 1 0 = 4294967295 ∧ ratioSaturates 64 0 0 = false := by decide

/-! ### Admission and the takes: 03 section 3.2, 04 section 4.8.2, 06 section 6.10 -/

theorem test_admission_of_ring :
    let t := after (.admission 1) (withRing .blocked (some example1) 45 0)
    (t.ring 1).consumed = 41 ∧ (t.ring 1).outstanding = 1 ∧ (t.ring 1).state = .idle ∧
    t.hp.writes.length = 1 ∧ (t.bank 1).seq = .starting ∧ t.sm.state = .settling := by decide

theorem test_admission_takes_entry_before_ring :
    let t := after (.admission 1) ((withRing .blocked (some example1) 45 0).setEntry 6
      { SchedEntry.reset with state := .ready, held := some example1 })
    (t.entry 6).state = .outstanding ∧ (t.ring 1).state = .blocked := by decide

theorem test_measure_starts :
    let t := after (.measure 1) (withBank .idle none [queued example1 false])
    (t.bank 1).seq = .starting ∧ t.holder 1 = some { status := .waiting, lowSeen := false } := by decide

theorem test_set_bank_applies :
    let t := after (.setBank 1) (withBank .idle none [queued (kindOfBytes 2 0 0x311 [1, 1, 0xF4, 1]) false])
    (t.bank 1).lifetime = 500 ∧ (t.bank 1).seq = .posting := by decide

/-! ### The supply monitor: 05 section 5.7 -/

theorem test_settle_end_grants :
    let m := { SupplyMonitor.reset with
      state := .settling, settleTimer := 400, reading := some .high,
      holders := SupplyMonitor.reset.holders.set 1 (some { status := .waiting, lowSeen := false }) }
    m.settleEndDue = true ∧ m.grantAll.state = .watching ∧
    m.grantAll.holders[1] = some { status := .granted, lowSeen := false } := by decide

theorem test_low_transition_marks :
    let s := measuring 1 5 5 false
    s.sm.markGranted.holders[1] = some { status := .granted, lowSeen := true } ∧
    ((s.supplyLowNotice 1).ref 1 .a).state = .revoked := by decide

theorem test_comparator_rises :
    (after (.comparatorReadsHigh 3060) (watching (inState .running) .low true)).sm.reading = some .high ∧
    (after (.comparatorReadsHigh 3050) (watching (inState .running) .low true)).sm.reading = some .low := by decide

theorem test_comparator_falls_in_settling :
    let s := { inState .running with sm := { SupplyMonitor.reset with state := .settling, reading := some .high } }
    (after (.comparatorReadsLow 2940) s).sm.reading = some .low ∧
    (after (.comparatorReadsLow 2940) s).eu.cause = 0 := by decide

/-- 05:R83: between the two levels the reading keeps its last value, and the level is kept for the next power-on. -/
theorem test_avdd_between_levels :
    let t := after (.comparatorReadsHigh 3020) (watching (inState .running) .low true)
    t.sm.reading = some .low ∧ t.avdd = 3020 ∧ { t with sm := SupplyMonitor.reset }.powerOnReading = .high := by decide

/-- 05:R83: a deeper fall with the reading LOW moves the level and is no further transition. -/
theorem test_deeper_fall :
    let t := after (.lowTransition 2500) (watching (inState .running) .low true)
    t.avdd = 2500 ∧ t.sm.reading = some .low ∧ t.eu.cause = 0 := by decide

/-! ### Bank abort: 04 section 4.8 -/

theorem test_abort_in_measuring :
    let t := after (.bankAbort 2) (measuring 2 5 5 false)
    (t.bank 1).seq = .posting ∧ (t.ref 1 .a).leased = false ∧ (t.cell 1).mux = .none ∧
    ((t.bank 1).context.bind fun x => x.record.map fun r => (r.status, r.channels.map fun c => c.status)) =
      some (.aborted, [.aborted]) := by decide

theorem test_abort_of_other_bank :
    ((after (.bankAbort 0xD) (measuring 2 5 5 false)).bank 1).seq = .measuring := by decide

/-! ### Submission rings: 06 section 6.10 -/

theorem test_submit_accepted :
    ((after (.submit 0x1002D) (withRing .idle none 40 0)).ring 1).tail = 45 := by decide

theorem test_submit_refused :
    ((after (.submit 0x10039) (withRing .idle none 40 0)).ring 1).tail = 40 ∧
    (after (.submit 0x10039) (withRing .idle none 40 0)).eu.cause = 32 := by decide

theorem test_ring_read_address :
    (after .ringReadIssue (withRing .idle none 45 0)).hp.read = some (.ring 1 0x10200) ∧
    (after .ringReadIssue (withRing .idle none 45 0)).fu.lastFetched = 1 := by decide

theorem test_ring_answer_blocks :
    ((after (.ringReadAnswer (.okay example1))
      ((withRing .fetching none 45 0).setRead (some (.ring 1 0x10200)))).ring 1).state = .blocked := by decide

theorem test_ring_answer_error :
    let t := after (.ringReadAnswer .busError) ((withRing .fetching none 45 0).setRead (some (.ring 1 0x10200)))
    (t.ring 1).state = .error ∧ t.eu.cause = 16 ∧ t.fu.posting.map (fun r => r.detail) = [8] := by decide

/-- 02 section 2.10.3. -/
theorem test_invalidate :
    let s := ((withRing .staged (some (kindOfBytes 3 0 0 [1, 3])) 45 0).setRef 1 .a { RefEntry.reset with
      state := .valid, leased := true, generation := 1 }).setRef 1 .b { RefEntry.reset with
      state := .stale, generation := 4 }
    let t := after (.invalidateRef 1) s
    (t.ref 1 .a).state = .revoked ∧ (t.ref 1 .b).state = .empty ∧ (t.ref 1 .b).generation = 4 ∧
    t.fu.posting.map (fun r => r.detail) = [0x382] := by decide

theorem test_report_refs :
    let t := after (.reportRefs 1) (withRing .staged (some (kindOfBytes 4 0 0x112 [])) 45 0)
    t.fu.posting.map (fun r => (r.slotCount, r.tag, r.snapshot.length)) = [(5, 0x112, 8)] ∧
    (t.ring 1).state = .posting := by decide

theorem test_set_supply_applied :
    let t := after (.setSupply 1) (withRing .staged (some (kindOfBytes 5 0 0x114 [4, 4])) 45 0)
    t.sm.level = 4 ∧ t.fu.posting.map (fun r => r.detail) = [0x40401] := by decide

/-- 05 section 5.7: "record DEFERRED, detail level 3, settle 4". -/
theorem test_set_supply_deferred :
    let t := after (.setSupply 1) (watching (withRing .staged (some (kindOfBytes 5 0 0 [5, 2])) 45 0) .high false)
    t.sm.pendingParams = some ⟨5, 2⟩ ∧ t.sm.level = 3 ∧ t.fu.posting.map (fun r => r.detail) = [0x40302] := by decide

theorem test_fence_waits :
    let t := after (.fence 1) (withRing .staged (some (kindOfBytes 8 1 0x113 [])) 45 2)
    (t.ring 1).state = .fenced ∧ (t.ring 1).fenceCount = 2 ∧ t.fu.posting = [] := by decide

theorem test_status_write_error :
    let t := after (.statusWriteAnswer .busError)
      { inState .running with hp := { HostPort.reset with writes := [writeAt .status 0x30010] } }
    t.cu.state = .faulted ∧ t.cu.faultCode = .statusWriteError ∧ t.cu.faultAddr = 0x0010 ∧ t.eu.cause = 256 := by decide

/-! ### Standing scans: 09 section 9.8 -/

theorem test_set_schedule :
    let s := { withRing .staged (some (kindOfBytes 6 0 0 ([2, 0, 100, 0, 10, 0, 0, 0] ++ bytesOf 8 0x41000))) 45 0 with
      tb := { micros := 2000000, prescaler := 0 } }
    let t := after (.setSchedule 1) s
    (t.entry 2).state = .armed ∧ (t.entry 2).nextExpiry = 2010000 ∧ (t.entry 2).template = 0x41000 ∧
    t.fu.posting.map (fun r => (r.status, r.detail)) = [(.success, 0x2)] := by decide

theorem test_clear_schedule :
    let s := (withRing .staged (some (kindOfBytes 7 0 0 [2])) 45 0).setEntry 2 { SchedEntry.reset with
      state := .outstanding }
    let t := after (.clearSchedule 1) s
    (t.entry 2).state = .clearing ∧ t.fu.posting.map (fun r => r.detail) = [0x402] := by decide

theorem test_expiry_skipped :
    let t := after (.scheduleExpiry 2) (withEntry .outstanding 0)
    (t.entry 2).skipped = 1 ∧ (t.entry 2).nextExpiry = 2210000 ∧ t.eu.cause = 4 := by decide

theorem test_expiry_requests :
    let t := after (.scheduleExpiry 2) (withEntry .armed 0)
    (t.entry 2).state = .fetching ∧ (t.entry 2).nextExpiry = 2210000 ∧ t.eu.cause = 0 := by decide

theorem test_template_read_issued :
    let t := after .templateReadIssue (withEntry .fetching 0)
    t.hp.read = some (.template 2 0x41000) ∧ (t.entry 2).phase = .reading := by decide

theorem test_template_answered :
    let s := ((withEntry .fetching 0).setEntry 2 { SchedEntry.reset with state := .fetching, phase := .reading }
      ).setRead (some (.template 2 0x41000))
    ((after (.templateReadAnswer (.okay example1)) s).entry 2).state = .ready ∧
    ((after (.templateReadAnswer .busError) s).entry 2).ending = .error := by decide

/-! ### The completion ring: 08 section 8.9 -/

theorem test_grant_stalls :
    let t := after .cqGrant (completing .running 44 36 9)
    t.cw.grant = .stalled ∧ t.eu.cause = 64 ∧ t.hp.writes = [] := by decide

theorem test_head_ends_stall :
    let t := after (.cqHead 37) (granted .running 44 36 9 .stalled [])
    t.cw.grant = .writing ∧ t.hp.writes.map (fun w => w.addr) =
      [0x200041A0, 0x200041C0, 0x200041E0, 0x20004000, 0x20004020, 0x20004040, 0x20004060, 0x20004080] ∧
    t.hp.writes.map (fun w => byteAt w.bytes 31) = [1, 1, 1, 0, 0, 0, 0, 0] := by decide

theorem test_head_refused :
    let t := after (.cqHead 60) (granted .running 53 37 1 .stalled [])
    t.cw.head = 37 ∧ t.cw.grant = .stalled ∧ t.eu.cause = 32 := by decide

theorem test_header_after_last_following :
    let t := after (.followingSlotWriteAnswer 0 .okay)
      (granted .running 44 37 9 .writing [writeAt .following 0x20004080])
    t.cw.grant = .header ∧ t.hp.writes.map (fun w => (w.addr, byteAt w.bytes 0, byteAt w.bytes 31)) =
      [(0x20004180, 9, 1)] := by decide

theorem test_header_posts :
    let t := after (.headerWriteAnswer .okay) (granted .running 44 37 9 .header [writeAt .header 0x20004180])
    t.cw.tail = 53 ∧ t.cw.phase = false ∧ t.cw.pointer = .bs 3 ∧ t.cw.grant = .none ∧ t.eu.cause = 3 ∧
    (t.bank 2).seq = .idle := by decide

/-- The header of 07 section 7.6, in phase 1. -/
theorem test_header_bytes :
    Record.slotBytes {
      slotCount := 3, kind := 1, status := .partialResult,
      flags := { RecordFlags.clear with
        refConverted := true, refRevoked := true, limitHit := true, supplyLowSeen := true },
      tag := 0x42, source := .ring 1, bank := 0, ref := .b, gate := 655360, nRef := 4096, generation := 4,
      startTime := 10000000, endTime := 10164832, detail := 0, channels := [], snapshot := [] } 0 true =
    bytesOf 3 0x010103 ++ bytesOf 1 0x1E ++ bytesOf 2 0x42 ++ bytesOf 1 1 ++ bytesOf 1 0x10 ++ bytesOf 4 655360 ++
      bytesOf 2 4096 ++ bytesOf 2 4 ++ bytesOf 4 10000000 ++ bytesOf 4 10164832 ++ bytesOf 7 0 ++ bytesOf 1 1 := by decide

/-! ### The life cycle: 10 section 10.6.1 -/

theorem test_enable_issues_setup_read :
    let t := after (.enable true) (after (.setupAddrLo 0x10040) State.reset)
    t.cu.state = .loading ∧ t.hp.setupRead = some 0x10040 := by decide

theorem test_setup_addr_high :
    (after (.setupAddrHi 1) (after (.setupAddrLo 2) State.reset)).cu.setupAddr = 0x100000002 ∧
    (after (.setupAddrHi 1) (inState .running)).eu.cause = 32 := by decide

theorem test_invalid_setup_block :
    let t := after (.setupReadAnswer (.okay (setupOf 6 5 0x20020))) (loading false)
    t.cu.state = .faulted ∧ t.cu.faultCode = .setupInvalid ∧ t.cu.faultAddr = 0x50 := by decide

theorem test_bring_up :
    let t := after (.setupReadAnswer (.okay (setupOf 6 5 0x20040))) (loading false)
    t.cu.state = .running ∧ (t.ring 0).size = 32 ∧ (t.ring 0).state = .idle ∧ (t.ring 1).state = .disabled ∧
    t.cw.size = 64 := by decide

theorem test_enable_in_faulted_refused :
    (after (.enable true) (inState .faulted)).eu.cause = 32 := by decide

theorem test_soft_reset :
    let t := after (.softReset false) { inState .faulted with eu := { cause := 256, mask := 1 } }
    t.cu.state = .off ∧ t.eu.cause = 0 ∧ t.eu.mask = 0 := by decide

theorem test_soft_reset_waits :
    let s := { inState .running with hp := { HostPort.reset with setupRead := none, writes := [writeAt .status 0] } }
    (after (.softReset true) s).cu.state = .resetting ∧
    (after .softResetComplete (after (.softReset true) s)).cu.state = .resetting ∧
    (after .softResetComplete (after (.statusWriteAnswer .busError) (after (.softReset true) s))).cu.state = .off := by
  decide

theorem test_drain_complete :
    let t := after .drainComplete (inState .stopping)
    t.cu.state = .stopped ∧ t.eu.cause = 128 := by decide

theorem test_hardware_reset :
    let t := after .resetNAsserted (inState .running)
    t.cu.state = .off ∧ (after .conversionClockTick t).tb.prescaler = 0 ∧
    (after .conversionClockTick (after .resetNReleased t)).tb.prescaler = 1 := by decide

/-! ### Events and the register window: 11 section 11.5, 12 sections 12.1 to 12.3 -/

theorem test_clear_deasserts_line :
    let s := { inState .running with eu := { cause := 7, mask := 0x109 } }
    s.evtN = false ∧ (after (.eventCause 1) s).eu.cause = 6 ∧ (after (.eventCause 1) s).evtN = true := by decide

theorem test_mask_write :
    (after (.eventMask 0xFFFFFFFF) State.reset).eu.mask = 0x1FF := by decide

theorem test_write_with_lane_disabled_ignored :
    (after (.registerWriteIgnored 0x20 7 0x1FF) State.reset).eu.mask = 0 ∧
    (after (.registerWriteIgnored 0x08 15 0x1FF) State.reset) = State.reset := by decide

theorem test_reads :
    State.reset.readAccess 0x00 = 0x4E520464 ∧ (inState .running).readAccess 0x08 = 2 ∧
    (granted .running 44 37 9 .none []).readAccess 0x19 = 37 := by decide

theorem test_time_base_wraps :
    (after .conversionClockTick { State.reset with tb := { micros := 0xFFFFFFFF, prescaler := 31 } }).tb =
      { micros := 0, prescaler := 0 } := by decide

/-! ### The hypotheses of the statements can be met -/

/-- A state of the list 03 section 3.4 gives: bank 1 IDLE with one entry. -/
def idleWith (d : Bytes) (flushed enabled : Bool) : State :=
  let s := withBank .idle none [queued d flushed]
  s.setBank 1 { s.bank 1 with enabled := enabled }

/-- The SET_BANK of 04 section 4.8 for bank 1. -/
def setBank1 : Bytes := kindOfBytes 2 0 0x311 [1, 1, 0xF4, 1]

/-- A status-area write and a following-slot write in flight in a controller state. -/
def writesIn (q : ControllerState) (ws : List BusWrite) : State :=
  { inState q with hp := { HostPort.reset with writes := ws } }

/-- A descriptor read in flight in a controller state. -/
def readIn (q : ControllerState) (r : BusRead) : State := (inState q).setRead (some r)

/-- Bank 1 STARTING with a granted holder, its entry 1A given. -/
def startingWith (e : RefEntry) : State :=
  (watching (withBank .starting (some (newContext 0)) [queued example1 false]) .high false).setRef 1 .a e

theorem witness_StepRunsFrontCommand : State.reset.pending = [] := by decide

theorem witness_HardwareResetHoldsBlock :
    (after .resetNAsserted State.reset).resetAsserted = true ∧ Instr.drainComplete ≠ .resetNAsserted ∧
    Instr.drainComplete ≠ .resetNReleased ∧ (∀ mv, Instr.drainComplete ≠ .lowTransition mv) ∧
    (∀ mv, Instr.drainComplete ≠ .comparatorReadsHigh mv) ∧
    (∀ mv, Instr.drainComplete ≠ .comparatorReadsLow mv) := by
  refine ⟨by decide, by decide, by decide, ?_, ?_, ?_⟩ <;> intro mv <;> exact Instr.noConfusion

theorem witness_SoftResetWaitsForBus :
    (inState .resetting).resetAsserted = false ∧ (inState .resetting).cu.state = .resetting ∧
    (inState .resetting).hp.inFlight = 0 ∧ (writesIn .running [writeAt .status 0]).cu.state ≠ .resetting ∧
    (writesIn .running [writeAt .status 0]).hp.inFlight ≠ 0 ∧ (inState .off).cu.state ≠ .resetting ∧
    (inState .off).hp.inFlight = 0 ∧ ¬ ((inState .off).cu.state = .resetting ∧ (inState .off).hp.inFlight = 0) ∧
    (let s := (endingComplete false).enterResetting
     s.resetAsserted = false ∧ s.cu.state = .resetting ∧ (∀ b, (s.cell b).state = .stopped) ∧ s.sm.state = .off ∧
     (∀ b : Bank, s.refs[b].noticeDue = false)) := by
  decide

/-- At the settle count, at a gate of 1 and of 0, at 64,000 ticks. -/
theorem witness_StartPhaseEvents :
    (let s := withCell (cellAt .settling .reference 4096 3200 0 0)
     s.resetAsserted = false ∧ (s.cell 1).state = .settling ∧
     (s.cell 1).settleCount ≤ (s.cell 1).gateTimer.toNat) ∧
    (let s := withCell (cellAt .awaitEdge .reference 64 64000 0 0)
     s.resetAsserted = false ∧ (s.cell 1).state = .awaitEdge ∧ (s.cell 1).kind = .reference ∧
     64000 ≤ (s.cell 1).gateTimer.toNat) ∧
    (let s := withCell (cellAt .awaitEdge .sense 1 64000 0 0)
     (s.cell 1).state = .awaitEdge ∧ (s.cell 1).kind = .sense ∧ (s.cell 1).param ≠ 0 ∧
     64000 ≤ (s.cell 1).gateTimer.toNat) ∧
    (let s := withCell (cellAt .awaitEdge .sense 0 7 0 0)
     (s.cell 1).state = .awaitEdge ∧ (s.cell 1).kind = .sense ∧ (s.cell 1).param = 0) := by decide

/-- At the last gate and the first too long one; at four cycles, three, and the full counter, before the close and
at it. -/
theorem witness_WindowsEndWithOutcome :
    (let s := withCell (cellAt .refWindow .reference 64 16777214 1 0)
     s.resetAsserted = false ∧ (s.cell 1).state = .refWindow ∧ (s.cell 1).refCounter.toNat = 1 ∧
     (s.cell 1).gateTimer.toNat ≤ 16777214) ∧
    (let s := withCell (cellAt .refWindow .reference 64 16777215 1 0)
     (s.cell 1).state = .refWindow ∧ (s.cell 1).gateTimer.toNat = 16777215) ∧
    (let s := withCell (cellAt .senseWindow .sense 64 0 0 4)
     (s.cell 1).state = .senseWindow ∧ (s.cell 1).gateTimer = 0 ∧ 4 ≤ (s.cell 1).sensorCounter.toNat) ∧
    (let s := withCell (cellAt .senseWindow .sense 64 0 0 3)
     (s.cell 1).state = .senseWindow ∧ (s.cell 1).gateTimer = 0 ∧ (s.cell 1).sensorCounter.toNat ≤ 3) ∧
    (let s := withCell (cellAt .senseWindow .sense 64 1 0 16777215)
     (s.cell 1).state = .senseWindow ∧ (s.cell 1).gateTimer ≠ 0 ∧ (s.cell 1).sensorCounter.toNat = 16777215) ∧
    (let s := withCell (cellAt .senseWindow .sense 64 0 0 16777215)
     (s.cell 1).state = .senseWindow ∧ (s.cell 1).gateTimer = 0) ∧
    ((State.reset.bank 1).seq ≠ .reference ∧ (State.reset.bank 1).seq ≠ .measuring) ∧
    ((converting 5 5 0 true).holder 1 = some { status := .granted, lowSeen := true } ∧
     (converting 5 5 0 true).lowSeen 1 = true ∧ ((converting 5 5 0 true).bank 1).seq = .reference ∧
     ((converting 5 5 0 true).bank 1).context.isSome) ∧
    ((measuring 2 5 5 true).holder 1 = some { status := .granted, lowSeen := true } ∧
     ((measuring 2 5 5 true).bank 1).seq = .measuring ∧ ((measuring 2 5 5 true).bank 1).context.isSome) := by decide

theorem witness_CountedEdgeChangesOneCounter :
    (let s := withCell (cellAt .refWindow .reference 64 16777214 2 0)
     s.resetAsserted = false ∧ (s.cell 1).state = .refWindow ∧ (s.cell 1).gateTimer.toNat < 16777215 ∧
     1 < (s.cell 1).refCounter.toNat) ∧
    (let s := withCell (cellAt .senseWindow .sense 64 1 0 16777214)
     (s.cell 1).state = .senseWindow ∧ (s.cell 1).gateTimer ≠ 0 ∧ (s.cell 1).sensorCounter.toNat < 16777215) ∧
    (let s := withCell (cellAt .senseWindow .sense 64 0 0 16777214)
     (s.cell 1).state = .senseWindow ∧ (s.cell 1).gateTimer = 0) ∧
    ((State.reset.cell 1).state = .stopped ∨ (State.reset.cell 1).state = .settling) := by decide

/-- A settle delay that is due and was not commanded is taken before the gate timer moves (log 3). -/
theorem test_tick_takes_due_settle_delay :
    ((after .conversionClockTick (withCell (cellAt .settling .sense 64 3200 0 0))).cell 1) =
      cellAt .awaitEdge .sense 64 1 0 0 := by decide

/-- One tick before the microsecond steps, with a cell in its last tick before the start timeout. -/
theorem witness_TickAdvancesTimers :
    let s := { withCell (cellAt .awaitEdge .sense 64 63999 0 0) with tb := { micros := 5, prescaler := 31 } }
    s.resetAsserted = false ∧
    (∀ b, (s.cell b).settleDue = false ∧ (s.cell b).startTimeoutDue = false ∧
      (s.cell b).refTimeoutDue = false ∧ (s.cell b).senseCloseDue = false) ∧
    s.sm.settleEndDue = false ∧ (∀ e, s.expiryDue e = false) ∧ s.takeDue = s ∧
    (∀ b : Bank, s.refs[b].noticeDue = false ∧ s.endInFlight b = none ∧ ¬ ((s.bank b).seq = .starting ∧
      (s.holder b).any (fun h => h.status == .granted) = true)) ∧
    (inState .resetting).cu.state ≠ .running ∧ (inState .resetting).cu.state ≠ .stopping := by decide

theorem witness_MicrosecondEveryThirtyTwoTicks :
    let s := { State.reset with tb := { micros := 0xFFFFFFFF, prescaler := 31 } }
    s.resetAsserted = false ∧ s.tb.prescaler < 32 := by decide

/-- A stopped cell on another selection and on the same, a cell that is not stopped, a sequencer in POSTING. -/
theorem witness_StartAndStopCommands :
    Cell.reset.state = .stopped ∧ Cell.reset.mux ≠ .channel 15 ∧
    ({ Cell.reset with mux := .channel 15 } : Cell).mux = .channel 15 ∧
    (cellAt .settling .sense 1 0 0 0).state ≠ .stopped ∧ ((completing .running 0 0 1).bank 2).seq = .posting := by
  decide

/-- Eight full samples, none, one of four cycles; and a list of samples at the ends of the range. -/
theorem witness_ChannelArithmeticExact :
    (8 ≤ 8 ∧ 4 * 8 ≤ 134217720 ∧ (8 = 0 → 134217720 = 0) ∧ 134217720 ≤ 134217720) ∧
    (4 * 0 ≤ 0 ∧ (0 = 0 → 0 = 0)) ∧ (4 * 1 ≤ 4 ∧ (1 = 0 → 4 = 0)) ∧
    (∀ n, (Except.ok n : Except Rejection Nat) ∈
      [.ok 4, .ok 16777215, .error .overflow] → 4 ≤ n ∧ n ≤ 16777215) ∧
    ((2 ≠ 0 ∧ 65536 * 1 ≤ (32768 : BitVec 16).toNat * 2) ∧ (1 ≠ 0 ∧ 65536 * 0 ≤ (0 : BitVec 16).toNat * 1) ∧
      (1 ≠ 0 ∧ (65535 : BitVec 16).toNat * 1 < 65536 * 1)) := by
  refine ⟨by decide, by decide, by decide, ?_, by decide⟩
  intro n h
  simp at h
  omega

/-- Both readings of the flag, and each sample outcome. -/
theorem witness_SampleJudgedAndEntryCompleted :
    (measuring 1 0 0 false).lowSeen 1 = false ∧ (measuring 1 0 0 true).lowSeen 1 = true ∧
    (Outcome.overflow = .good 0 ∨ Outcome.overflow = .openCircuit 0 ∨ Outcome.overflow = .overflow) ∧
    (contextAt 0 1 0 (some exampleLease)).lease = some exampleLease := by decide

/-- REVOKED; VALID in its last young microsecond; VALID at its lifetime. -/
theorem witness_ReferenceEntryOperations :
    let e := { RefEntry.reset with state := .revoked, leased := true }
    let v := { RefEntry.reset with state := .valid, leased := true }
    e.state = .revoked ∧ v.state = .valid ∧
    ((999999 : Time) - v.publishedAt).toNat < (1000 : BitVec 16).toNat * 1000 ∧
    (1000 : BitVec 16).toNat * 1000 ≤ ((1000000 : Time) - v.publishedAt).toNat := by decide

/-- The five rows, each on the head of bank 1's queue. -/
theorem witness_TakeActsByFirstRow :
    (((idleWith setBank1 true true).bank 1).queue = [queued setBank1 true] ∧ (queued setBank1 true).flushed = true ∧
      descKind (queued setBank1 true).desc = Kind.setBank.code) ∧
    (((idleWith example1 true true).bank 1).queue = [queued example1 true] ∧
      descKind (queued example1 true).desc = Kind.measure.code) ∧
    (((idleWith setBank1 false true).bank 1).queue = [queued setBank1 false] ∧
      (queued setBank1 false).flushed = false) ∧
    (((idleWith example1 false false).bank 1).queue = [queued example1 false] ∧
      ((idleWith example1 false false).bank 1).enabled = false) ∧
    (((idleWith example1 false true).bank 1).queue = [queued example1 false] ∧
      ((idleWith example1 false true).bank 1).enabled = true) := by decide

theorem witness_IdleSequencerTakesMeasureOrSetBank :
    (let s := idleWith example1 false true
     s.resetAsserted = false ∧ s.working = true ∧ (s.bank 1).seq = .idle ∧ (s.bank 1).enabled = true ∧
     (s.bank 1).queue = [queued example1 false] ∧ (queued example1 false).flushed = false ∧
     descKind (queued example1 false).desc = Kind.measure.code ∧ s.sm.state = .off) ∧
    (let s := withRing .blocked (some example1) 45 0
     (s.bank 1).seq = .idle ∧ (s.bank 1).enabled = true ∧ (s.bank 1).queue = [] ∧
     s.grantable 1 = some (.ring 1 example1) ∧ descKind (Candidate.ring 1 example1).desc = Kind.measure.code) ∧
    (let s := idleWith setBank1 false true
     s.working = true ∧ (s.bank 1).seq = .idle ∧ (s.bank 1).queue = [queued setBank1 false] ∧
     descKind (queued setBank1 false).desc = Kind.setBank.code) ∧
    (let s := withRing .blocked (some setBank1) 45 0
     s.working = true ∧ (s.bank 1).seq = .idle ∧ (s.bank 1).queue = [] ∧
     s.grantable 1 = some (.ring 1 setBank1) ∧ descKind (Candidate.ring 1 setBank1).desc = Kind.setBank.code) := by
  decide

/-- SETTLING, WATCHING with either reading, and the settle end just due with either reading. -/
theorem witness_HoldRequestAndSettleEnd :
    (let m := { SupplyMonitor.reset with state := MonitorState.settling, settleTimer := 400, reading := some .high }
     let s := { State.reset with sm := m }
     s.resetAsserted = false ∧ s.sm.state = .settling ∧ s.sm.settleTime * 100 ≤ s.sm.settleTimer ∧
     s.sm.reading = some .high) ∧
    (let s := { State.reset with
        sm := { SupplyMonitor.reset with
          state := .settling, settleTimer := 400, reading := some .low,
          holders := SupplyMonitor.reset.holders.set 1 (some { status := .waiting, lowSeen := false }) } }
     s.sm.state = .settling ∧ s.sm.settleTime * 100 ≤ s.sm.settleTimer ∧ s.sm.reading = some .low ∧
     (s.holder 1).isSome = true) ∧
    ((watching State.reset .high false).sm.state = .watching ∧
      (watching State.reset .high false).sm.reading = some .high) ∧
    ((watching State.reset .low true).sm.state = .watching ∧
      (watching State.reset .low true).sm.reading = some .low) ∧
    (State.reset.sm.state ≠ .settling ∧ State.reset.messageDue 1 = false) ∧
    (let s := startingWith RefEntry.reset
     s.sm.state ≠ .settling ∧ s.cu.state = .running ∧ (s.bank 1).seq = .starting ∧
     (s.holder 1).any (fun h => h.status == .granted) = true) ∧
    (let s := State.reset.holdNotice 1
     s.refs[1].noticeDue = true) ∧ (endingComplete false).endInFlight 1 ≠ none := by decide

/-- IDLE; a hit in the last young microsecond; a miss; a granted holder with a context and a lease. -/
theorem witness_GrantRequestsLeaseAndStartsWindow :
    (State.reset.bank 1).seq ≠ .starting ∧
    (let s := { startingWith { RefEntry.reset with state := .valid, nRef := 4096 } with
        tb := { micros := 999999, prescaler := 0 } }
     (s.bank 1).seq = .starting ∧ (s.bank 1).context = some (newContext 0) ∧
     (s.ref 1 (descRef (s.headDesc 1))).isHit (descNRef (s.headDesc 1)) (descForceRef (s.headDesc 1))
        (s.bank 1).lifetime s.now = true ∧
     s.holder 1 = some { status := .granted, lowSeen := false }) ∧
    (let s := startingWith RefEntry.reset
     (s.bank 1).seq = .starting ∧ (s.bank 1).context = some (newContext 0) ∧
     (s.ref 1 (descRef (s.headDesc 1))).isHit (descNRef (s.headDesc 1)) (descForceRef (s.headDesc 1))
        (s.bank 1).lifetime s.now = false) ∧
    (let s := measuring 1 0 0 false
     (s.bank 1).context = some (contextAt 0 1 0 (some exampleLease)) ∧ s.holder 1 = some { status := .granted, lowSeen := false } ∧
     (contextAt 0 1 0 (some exampleLease)).lease = some exampleLease) := by decide

/-- 02:R30: a notice in flight is taken after the retry claim that it meets, at the latest before time goes on. -/
theorem test_notice_after_retry_claim :
    let t := after (.refDone 1) ((converting 655360 1 0 true).holdNotice 1)
    (t.ref 1 .a).supplyRevoke = false ∧
    ((after .conversionClockTick t).ref 1 .a).supplyRevoke = true := by decide

/-- 04:R73: "if the release is taken first, the withdrawal finds the entry unleased and empties it, and the record has
REF_REVOKED clear". -/
theorem test_notice_after_release :
    let t := after (.bankAbort 2) ((measuring 2 5 5 false).holdNotice 1)
    (t.ref 1 .a).state ≠ .revoked ∧ (t.ref 1 .a).leased = false ∧
    ((after .conversionClockTick t).ref 1 .a).state = .empty ∧
    ((t.bank 1).context.bind fun x => x.record.map fun r => r.flags.refRevoked) = some false := by decide

/-- 04 section 4.2: "If the abort is taken first, the sequencer is in POSTING when the grant arrives, and it disregards
the grant." -/
theorem test_abort_before_grant_arrives :
    let s := startingWith RefEntry.reset
    let t := after (.bankAbort 2) s
    s.grantDue 1 = true ∧ (t.bank 1).seq = .posting ∧ t.holder 1 = none ∧ t.refs = s.refs ∧
    (after .conversionClockTick t).bank 1 = t.bank 1 := by decide

theorem test_grant_in_flight_taken_at_tick :
    ((after .conversionClockTick (startingWith RefEntry.reset)).bank 1).seq = .reference := by decide

/-- 03:R55: a low transition before the outcome, with no tick between, is read at the outcome. -/
theorem test_low_transition_before_outcome_is_judged :
    let s := measuring 1 5 5 false
    let t := { s with sm := s.sm.markGranted }
    s.lowSeen 1 = false ∧ t.lowSeen 1 = true ∧
    (((t.takeOutcome 1 (.good 100)).bank 1).context.map fun x => (x.acc.rejected, x.flags.supplyLowSeen)) =
      some (1, true) := by decide

theorem witness_ReferenceOutcomeInReference :
    (let s := converting 655360 1 0 false
     (s.bank 1).seq = .reference ∧ (s.bank 1).context = some (contextAt 0 0 0 none) ∧ s.lowSeen 1 = false) ∧
    (let s := converting 655360 1 0 true
     (s.bank 1).seq = .reference ∧ s.lowSeen 1 = true ∧ (contextAt 0 0 0 none).supplyFailures = 0) ∧
    (let s := converting 655360 1 1 true
     (s.bank 1).context = some (contextAt 0 0 1 none) ∧ s.lowSeen 1 = true ∧
     (contextAt 0 0 1 none).supplyFailures ≠ 0 ∧ (contextAt 0 0 1 none).lease = none) ∧
    (let x := { contextAt 0 0 0 none with endDue := some (.failed .timeout) }
     ((endingFailed .timeout).bank 1).seq = .reference ∧ ((endingFailed .timeout).bank 1).context = some x ∧
     x.lease = none ∧ (endingFailed .timeout).cu.state = .running) ∧
    (endingFailed .supplyLow).cu.state = .running ∧ ((endingFailed .supplyLow).bank 1).context =
      some { contextAt 0 0 0 none with endDue := some (.failed .supplyLow) } := by decide

/-- A first sample of two, the last of an entry with another behind it, and the last of all. -/
theorem witness_SampleOutcomeAdvancesMeasure :
    (let s := measuring 1 0 2048 false
     (s.bank 1).seq = .measuring ∧ (s.bank 1).context = some (contextAt 0 1 0 (some exampleLease)) ∧
     (contextAt 0 1 0 (some exampleLease)).sampleNo < descSamples (s.headDesc 1)) ∧
    (let s := withBank .measuring (some (contextAt 1 2 0 (some exampleLease))) [queued example2 false]
     (s.bank 1).seq = .measuring ∧ descSamples (s.headDesc 1) ≤ (contextAt 1 2 0 (some exampleLease)).sampleNo ∧
     (contextAt 1 2 0 (some exampleLease)).entryPos + 1 < descChannelCount (s.headDesc 1)) ∧
    (let s := measuring 2 0 2048 false
     descSamples (s.headDesc 1) ≤ (contextAt 0 2 0 (some exampleLease)).sampleNo ∧
     descChannelCount (s.headDesc 1) ≤ (contextAt 0 2 0 (some exampleLease)).entryPos + 1) ∧
    (Outcome.good 2048 = .good 2048 ∨ Outcome.good 2048 = .openCircuit 2048 ∨ Outcome.good 2048 = .overflow) ∧
    (let x := { contextAt 0 2 0 (some exampleLease) with endDue := some .complete }
     ((endingComplete false).bank 1).seq = .measuring ∧ ((endingComplete false).bank 1).context = some x ∧
     x.lease = some exampleLease ∧ (endingComplete false).cu.state = .running) := by
  decide

/-- A ring, an entry before a ring, and nothing that waits. -/
theorem witness_AdmissionChoosesAndMoves :
    (let s := withRing .blocked (some example1) 45 0
     s.resetAsserted = false ∧ s.grantable 1 = some (.ring 1 example1)) ∧
    (let s := (withRing .blocked (some example1) 45 0).setEntry 6
        { SchedEntry.reset with state := .ready, held := some example1 }
     s.grantable 1 = some (.schedule 6 example1)) ∧
    (let s := inState .stopping
     s.grantable 1 = none ∧ s.working = true ∧ (s.bank 1).queue.length < 4) := by decide

/-- Each controller state's clause, a mask of one bank, a mask of 0 with bits above it, IDLE, POSTING. -/
theorem witness_BankAbortAndFlush :
    (inState .off).resetAsserted = false ∧ (inState .off).cu.state ≠ .running ∧ (inState .off).cu.state ≠ .stopping ∧
    ((inState .stopping).cu.state = .running ∨ (inState .stopping).cu.state = .stopping) ∧
    (∀ i < 4, (0x8 : BitVec 32).getLsbD i = (i == (3 : Bank).val)) ∧
    (∀ i < 4, (0xFFFFFFF0 : BitVec 32).getLsbD i = false) ∧ ((inState .running).bank 3).seq = .idle ∧
    ((completing .running 0 0 1).bank 2).seq = .posting ∧
    ((completing .running 0 0 1).bank 2).queue = [queued example1 false] ∧
    ((completing .running 0 0 1).bank 2).seq ≠ .idle ∧
    ((inState .running).setBank 2 { BankSeq.reset with seq := .posting }).bank 2 =
      { BankSeq.reset with seq := .posting } := by decide

theorem witness_AbortEndsActiveMeasure :
    ((endingComplete false).endInFlight 1 ≠ none ∧ ((endingComplete false).bank 1).queue = [queued example1 false]) ∧
    ((newContext 0).endDue = none ∧ (contextAt 0 0 1 none).endDue = none) ∧
    (let s := startingWith RefEntry.reset
     (s.bank 1).context = some (newContext 0) ∧ (s.bank 1).queue = [queued example1 false] ∧
     (s.bank 1).seq = .starting ∧ (newContext 0).lease = none) ∧
    (let s := converting 5 5 1 true
     (s.bank 1).context = some (contextAt 0 0 1 none) ∧ (s.bank 1).queue = [queued example1 false] ∧
     (s.bank 1).seq = .reference ∧ (contextAt 0 0 1 none).lease = none) ∧
    (let s := measuring 2 5 5 false
     (s.bank 1).context = some (contextAt 0 2 0 (some exampleLease)) ∧
     (s.bank 1).queue = [queued example1 false] ∧ (s.bank 1).seq = .measuring ∧
     (contextAt 0 2 0 (some exampleLease)).lease = some exampleLease) := by decide

theorem witness_AbortConfinedToBank :
    ((1 : Bank) ≠ 0) ∧ (measuring 2 5 5 false).headSource 1 ≠ .schedule 0 ∧ Ref.b ≠ descRef ((measuring 2 5 5 false).headDesc 1) ∧
    ((watching (inState .running) .high false).abortBank 0).sm.state ≠ .off := by decide

/-- Just below the threshold of 3.00 V, just above 3.05 V, both ends of the band between, and OFF. -/
theorem witness_ComparatorEvents :
    (let s := watching (inState .running) .high false
     s.resetAsserted = false ∧ s.sm.state = .watching ∧ s.sm.reading = some .high ∧
     2999 < 2700 + 100 * s.sm.level ∧ s.sm.state ≠ .off ∧ 2700 + 100 * s.sm.level + 50 < 3051 ∧
     2700 + 100 * s.sm.level ≤ 3000 ∧ 3050 ≤ 2700 + 100 * s.sm.level + 50) ∧
    ((watching (inState .running) .low true).sm.state = .watching ∧
      (watching (inState .running) .low true).sm.reading = some .low) ∧
    (let s := { inState .running with sm := { SupplyMonitor.reset with state := .settling, reading := some .high } }
     s.sm.state = .settling ∧ 2999 < 2700 + 100 * s.sm.level) ∧
    (inState .running).sm.state = .off := by decide

/-- No holder, one of two, the last. -/
theorem witness_HoldReleaseTurnsMonitorOff :
    State.reset.holder 1 = none ∧
    (let s := (watching State.reset .high false).setHolder 2 (some { status := .granted, lowSeen := false })
     (s.holder 1).isSome = true ∧ (2 : Bank) ≠ 1 ∧ (s.holder 2).isSome = true) ∧
    (let s := watching State.reset .high false
     (s.holder 1).isSome = true ∧ ∀ c : Bank, c ≠ 1 → s.holder c = none) := by decide

/-- ARMED and each skipping state at the expiry, with the count full; and the three ways not to expire. -/
theorem witness_ExpiryRequestsOrSkips :
    (let s := withEntry .armed 0
     s.resetAsserted = false ∧ s.cu.state = .running ∧ (s.entry 2).nextExpiry = s.now ∧
     (s.entry 2).state = .armed) ∧
    ((withEntry .fetching 255).entry 2).state = .fetching ∧ ((withEntry .ready 254).entry 2).state = .ready ∧
    ((withEntry .outstanding 255).entry 2).state = .outstanding ∧
    ((withEntry .clearing 255).entry 2).state = .clearing ∧ ((withEntry .clearing 255).entry 2).nextExpiry = 2110000 ∧
    (inState .stopping).cu.state ≠ .running ∧ ((withEntry .free 0).entry 2).state = .free ∧
    ((inState .running).setEntry 2 { SchedEntry.reset with nextExpiry := 1 }).now ≠ 1 := by decide

/-- A SET_SCHEDULE with a first delay and without, with REPLACE and without, on each state; and a CLEAR_SCHEDULE. -/
theorem witness_ScheduleSetAndCleared :
    (let d := kindOfBytes 6 0 0 ([7, 1, 1, 0, 1, 0, 0, 0] ++ bytesOf 8 0x41000)
     let s := withRing .staged (some d) 45 0
     s.resetAsserted = false ∧ (s.cu.state = .running ∨ s.cu.state = .stopping) ∧ (s.ring 1).state = .staged ∧
     (s.ring 1).staging = some d ∧ descKind d = 6 ∧ descEntry d = 7 ∧ (s.entry 7).state = .free ∧
     ¬ (s.cu.state = .running ∧ descFirstDelay d = 0) ∧ descReplace d = true ∧
     ((s.setEntry 7 { SchedEntry.reset with state := .armed }).entry 7).state = .armed ∧
     ((s.setEntry 7 { SchedEntry.reset with state := .outstanding }).entry 7).state = .outstanding ∧
     ((s.setEntry 7 { SchedEntry.reset with state := .clearing }).entry 7).state = .clearing) ∧
    (let d := kindOfBytes 6 0 0 ([0, 0, 1, 0, 0, 0, 0, 0] ++ bytesOf 8 0x41000)
     let s := withRing .staged (some d) 45 0
     descKind d = 6 ∧ descEntry d = 0 ∧ (s.entry 0).state = .free ∧ s.cu.state = .running ∧ descFirstDelay d = 0 ∧
     descReplace d = false ∧ ((s.setEntry 0 { SchedEntry.reset with state := .ready }).entry 0).state = .ready) ∧
    (let d := kindOfBytes 7 0 0 [7]
     let s := withRing .staged (some d) 45 0
     (s.ring 1).state = .staged ∧ (s.ring 1).staging = some d ∧ descKind d = 7) := by decide

/-- A tail a whole ring ahead, one beyond it, and the consumed index on a busy ring; the other states. -/
theorem witness_SubmitAcceptedOrRefused :
    (let r := (withRing .idle none 40 0).ring 1
     r.state ≠ .disabled ∧ r.state ≠ .error ∧ ((56 : Index) - r.consumed).toNat ≤ r.size ∧
     ¬ ((57 : Index) - r.consumed).toNat ≤ r.size) ∧
    (let r := (withRing .fetching none 45 0).ring 1
     r.state = .fetching ∧ (40 : Index) = r.consumed) ∧
    (Fin.ofNat 4 ((0x10038 : BitVec 32).extractLsb' 16 2).toNat : Ring) = 1 ∧
    (0x10038 : BitVec 32).extractLsb' 0 16 = 56 ∧ (withRing .idle none 40 0).cu.state = .running ∧
    (withRing .idle none 40 0).resetAsserted = false ∧
    (inState .stopping).cu.state ≠ .running ∧ (inState .stopping).cu.state ≠ .resetting ∧
    (inState .resetting).cu.state = .resetting := by decide

/-- The ring at distance 2 from the last fetched one; the template request of entry 2 before the ring. -/
theorem witness_FetchArbiterIssuesReads :
    (let s := withRing .idle none 45 0
     s.resetAsserted = false ∧ s.cu.state = .running ∧ s.hp.read = none ∧
     (∀ e, ¬ ((s.entry e).state = .fetching ∧ (s.entry e).phase = .requested)) ∧ s.fu.lastFetched = 3 ∧
     (s.ring (Fin.ofNat 4 (3 + 2))).state = .idle ∧
     (s.ring (Fin.ofNat 4 (3 + 2))).tail ≠ (s.ring (Fin.ofNat 4 (3 + 2))).consumed ∧
     ¬ ((s.ring (Fin.ofNat 4 (3 + 1))).state = .idle)) ∧
    (let s := withEntry .fetching 0
     s.cu.state = .running ∧ s.hp.read = none ∧ (s.entry 2).state = .fetching ∧ (s.entry 2).phase = .requested ∧
     ∀ i : Entry, i < 2 → ¬ ((s.entry i).state = .fetching ∧ (s.entry i).phase = .requested)) ∧
    ((inState .stopping).cu.state ≠ .running ∨ (inState .stopping).hp.read ≠ none) ∧
    (let s := withRing .idle none 40 0
     s.cu.state = .running ∧ s.hp.read = none ∧
     (∀ e, ¬ ((s.entry e).state = .fetching ∧ (s.entry e).phase = .requested)) ∧
     ∀ n, ¬ ((s.ring n).state = .idle ∧ (s.ring n).tail ≠ (s.ring n).consumed)) ∧
    (0xFFFFFFFFFFFFFFC0 : Addr).toNat + 63 < 18446744073709551616 := by decide

/-- A MEASURE, a SET_SUPPLY, a block of zeros. -/
theorem witness_RingReadAnswered :
    (let s := (withRing .fetching none 45 0).setRead (some (.ring 1 0x10200))
     s.resetAsserted = false ∧ (s.cu.state = .running ∨ s.cu.state = .stopping) ∧
     s.hp.read = some (.ring 1 0x10200) ∧ (s.ring 1).state = .fetching) ∧
    (checkDescriptor example1 = none ∧ descKind example1 = 1) ∧
    (let d := kindOfBytes 5 0 0 [15, 16]
     checkDescriptor d = none ∧ descKind d ≠ 1 ∧ descKind d ≠ 2) ∧
    checkDescriptor (block []) = some ⟨.badKind, 0⟩ := by decide

theorem witness_TemplateReadAnswered :
    (let s := ((withEntry .fetching 0).setEntry 2 { SchedEntry.reset with state := .fetching, phase := .reading }
        ).setRead (some (.template 2 0x41000))
     s.resetAsserted = false ∧ (s.cu.state = .running ∨ s.cu.state = .stopping) ∧
     s.hp.read = some (.template 2 0x41000) ∧ (s.entry 2).state = .fetching ∧ (s.entry 2).phase = .reading) ∧
    checkTemplate example1 = none ∧ (checkTemplate setBank1).isSome = true ∧
    (let s := (withEntry .free 0).setRead (some (.template 2 0x41000))
     s.cu.state = .running ∧ ¬ ((s.entry 2).state = .fetching ∧ (s.entry 2).phase = .reading)) ∧
    ((readIn .faulted (.ring 1 0)).cu.state = .faulted ∧
      (readIn .faulted (.ring 1 0)).hp.read = some (.ring 1 0)) ∧
    ((readIn .resetting (.template 2 0)).cu.state = .resetting ∧
      (readIn .resetting (.template 2 0)).hp.read = some (.template 2 0)) := by decide

/-- A descriptor of 64 bytes with its fields in range, and a block for each row of the table, at the first value
that fails. -/
theorem witness_FirstFailingCheckDecides :
    (measureOf 4 0 3 1 8 64 2 2 [15]).length = 64 ∧ (byteAt (measureOf 4 0 3 1 8 64 2 2 [15]) 4).toNat ≤ 3 ∧
    (byteAt (measureOf 4 0 3 1 8 64 2 2 [15]) 5).toNat = 1 ∧
    (byteAt (measureOf 4 0 3 0 8 64 2 2 [15]) 5).toNat = 0 ∧
    (byteAt (measureOf 4 0 3 1 8 64 2 2 [15]) (20 + 0)).toNat ≤ 15 ∧
    (byteAt (kindOfBytes 7 0 0 [7]) 4).toNat ≤ 7 ∧
    checkDescriptor (kindOfBytes 0 0 0 []) = some ⟨.badKind, 0⟩ ∧
    checkDescriptor (kindOfBytes 9 0 0 []) = some ⟨.badKind, 0⟩ ∧
    checkDescriptor (measureOf 0 0 4 0 2 4096 0 0 [6]) = some ⟨.badBank, 0⟩ ∧
    checkDescriptor (measureOf 0 0 3 2 2 4096 0 0 [6]) = some ⟨.badRef, 0⟩ ∧
    checkDescriptor (measureOf 0 0 3 1 2 4096 0 0 []) = some ⟨.badChannelCount, 0⟩ ∧
    checkDescriptor (measureOf 0 0 3 1 2 4096 0 0 [15, 16]) = some ⟨.badChannel, 1⟩ ∧
    checkDescriptor (measureOf 0 0 3 1 9 4096 0 0 [15]) = some ⟨.badSamples, 0⟩ ∧
    checkDescriptor (measureOf 0 0 3 1 8 63 0 0 [15]) = some ⟨.badNRef, 0⟩ ∧
    checkDescriptor (measureOf 4 0 3 1 8 64 2 1 [15]) = some ⟨.badLimits, 0⟩ ∧
    checkDescriptor (measureOf 4 0 3 1 8 64 2 2 [15]) = none ∧ 36 ≤ 63 ∧
    descKind (measureOf 4 0 3 1 8 64 2 2 [15]) = 1 ∧ descKind (kindOfBytes 2 0 0 []) ≠ 1 := by decide

/-- The same for the other kinds. -/
theorem witness_FirstFailingCheckDecides_kinds :
    checkDescriptor (kindOfBytes 2 0 0 [4]) = some ⟨.badBank, 0⟩ ∧
    checkDescriptor (kindOfBytes 3 0 0 [3, 4]) = some ⟨.badRefMask, 0⟩ ∧
    checkDescriptor (kindOfBytes 4 0 0 [255, 255]) = none ∧
    checkDescriptor (kindOfBytes 5 0 0 [16, 16]) = some ⟨.badLevel, 0⟩ ∧
    checkDescriptor (kindOfBytes 5 0 0 [15, 17]) = some ⟨.badSettle, 0⟩ ∧
    checkDescriptor (kindOfBytes 6 0 0 [8]) = some ⟨.badEntry, 0⟩ ∧
    checkDescriptor (kindOfBytes 6 0 0 [7, 0, 0, 0]) = some ⟨.badPeriod, 0⟩ ∧
    checkDescriptor (kindOfBytes 6 0 0 [7, 0, 1, 0, 0, 0, 0, 0, 63]) = some ⟨.badTemplateAddr, 0⟩ ∧
    checkDescriptor (kindOfBytes 7 0 0 [8]) = some ⟨.badEntry, 0⟩ ∧
    checkDescriptor (kindOfBytes 8 0 0 [255]) = none := by decide

theorem witness_InvalidateAndReportRefs :
    (let d := kindOfBytes 3 0 0 [3, 1]
     let s := withRing .staged (some d) 45 0
     s.resetAsserted = false ∧ (s.cu.state = .running ∨ s.cu.state = .stopping) ∧ (s.ring 1).state = .staged ∧
     (s.ring 1).staging = some d ∧ descKind d = 3) ∧
    (let d := kindOfBytes 4 0 0 []
     let s := withRing .staged (some d) 45 0
     (s.ring 1).state = .staged ∧ (s.ring 1).staging = some d ∧ descKind d = 4) := by decide

theorem witness_SetSupplyAndFence :
    (let d := kindOfBytes 5 0 0 [15, 16]
     let s := withRing .staged (some d) 45 0
     s.resetAsserted = false ∧ (s.cu.state = .running ∨ s.cu.state = .stopping) ∧ (s.ring 1).state = .staged ∧
     (s.ring 1).staging = some d ∧ descKind d = 5 ∧ s.sm.state = .off ∧
     (watching s .high false).sm.state ≠ .off ∧ ((watching s .high false).ring 1).state = .staged) ∧
    (let d := kindOfBytes 8 0 0 []
     descKind d = 8 ∧ ((withRing .staged (some d) 45 0).ring 1).outstanding = 0 ∧
     ((withRing .staged (some d) 45 20).ring 1).outstanding ≠ 0 ∧
     ((withRing .staged (some d) 45 20).ring 1).staging = some d) := by decide

theorem witness_NoticesOfPosting :
    (let r := (withRing .idle none 45 1).ring 1
     ¬ (r.state = .fenced ∧ r.outstanding ≤ 1)) ∧
    (let d := kindOfBytes 8 0 0 []
     let r := (withRing .fenced (some d) 45 1).ring 1
     r.state = .fenced ∧ r.outstanding = 1 ∧ r.staging = some d) ∧
    (((State.reset.pushRecord (recordOf 1 .fetchError (.ring 1))).fu.posting =
        [recordOf 1 .fetchError (.ring 1)]) ∧ (recordOf 1 .fetchError (.ring 1)).status = .fetchError ∧
      (recordOf 1 .templateError (.schedule 7)).source = .schedule 7 ∧
      (recordOf 1 .success (.ring 1)).status ≠ .fetchError ∧ (recordOf 1 .success (.ring 1)).source = .ring 1) ∧
    (((withEntry .outstanding 0).entry 2).state = .outstanding ∧
      ((withEntry .outstanding 0).entry 2).ending = .normal ∧
      ({ SchedEntry.reset with state := SchedState.outstanding, ending := Ending.error }).ending = .error ∧
      ((withEntry .clearing 0).entry 2).state = .clearing) := by decide

/-- The status write behind a slot write, in each controller state of the clauses. -/
theorem witness_StatusAreaWrittenAndAnswered :
    (let s := writesIn .stopping [writeAt .header 0, writeAt .status 16, writeAt .status 32]
     s.resetAsserted = false ∧ s.hp.writes = [writeAt .header 0] ++ writeAt .status 16 :: [writeAt .status 32] ∧
     (∀ u ∈ [writeAt .header 0], u.kind ≠ .status) ∧ (writeAt .status 16).kind = .status ∧
     (s.cu.state = .running ∨ s.cu.state = .stopping)) ∧
    (writesIn .faulted [writeAt .status 16]).cu.state = .faulted ∧
    (writesIn .resetting [writeAt .status 16]).cu.state = .resetting := by decide

/-- A list of one entry, its only position; and of two, the second; the last entry of a snapshot; a detail. -/
theorem witness_SlotLayouts :
    let c := notRunEntry example2 0
    let r1 := { recordOf 2 .aborted (.ring 3) with channels := [c] }
    let r2 := { recordOf 2 .aborted (.schedule 7) with channels := [c, c] }
    r1.source = .ring 3 ∧ r2.source = .schedule 7 ∧ r1.snapshot = [] ∧ r1.channels[0]? = some c ∧
    0 + 1 = r1.channels.length ∧ r2.snapshot = [] ∧ r2.channels[1]? = some c ∧ 1 % 2 = 1 ∧
    (let e := RefEntry.reset.snap 3 .b 0
     let r3 := { recordOf 5 .success (.ring 0) with snapshot := State.reset.snapshot }
     r3.channels = [] ∧ r3.snapshot[7]? = some e ∧ 7 % 2 = 1) ∧ r1.detail = detailBytes 0 0 0 0 := by decide

/-- The smallest ring at its last slot, and the largest at the wrap of the index. -/
theorem witness_SlotPhaseIsPhaseOfIndex :
    (let w := { CompletionWriter.reset with size := 16, tail := 53, phase := false }
     4 ≤ 4 ∧ w.size = 2 ^ 4 ∧ 15 < w.size ∧ w.phase = phaseOfIndex w.size w.tail ∧ w.tail.toNat + 15 < 65536) ∧
    (let w := { CompletionWriter.reset with size := 4096, tail := 65535, phase := false }
     12 ≤ 12 ∧ w.size = 2 ^ 12 ∧ 4095 < w.size ∧ w.phase = phaseOfIndex w.size w.tail) := by decide

/-- 08 section 8.9: a record that fills the ring, one slot, one slot too many; and nothing to grant. -/
theorem witness_CompletionGrant :
    ((inState .off).cw.grant ≠ .none ∨ ((inState .off).cu.state ≠ .running ∧ (inState .off).cu.state ≠ .stopping)) ∧
    (let s := completing .running 44 37 9
     s.resetAsserted = false ∧ (s.cu.state = .running ∨ s.cu.state = .stopping) ∧ s.cw.grant = .none ∧
     s.nextRequest = some { requester := .bs 2, record := recordOf 9 .success (.ring 0) } ∧
     (recordOf 9 .success (.ring 0)).slotCount ≤ s.cw.size - (s.cw.tail - s.cw.head).toNat ∧
     1 < (recordOf 9 .success (.ring 0)).slotCount) ∧
    (let s := completing .running 44 29 1
     s.nextRequest = some { requester := .bs 2, record := recordOf 1 .success (.ring 0) } ∧
     (recordOf 1 .success (.ring 0)).slotCount ≤ s.cw.size - (s.cw.tail - s.cw.head).toNat) ∧
    (let s := completing .running 44 36 9
     s.cw.size - (s.cw.tail - s.cw.head).toNat < (recordOf 9 .success (.ring 0)).slotCount) ∧
    (let s := completing .running 44 36 9
     (s.bank 2).seq = .posting ∧ (s.bank 2).context.isSome = true ∧ (s.bank 0).seq ≠ .posting ∧ s.fu.posting = []) ∧
    (readIn .running (.ring 1 0)).nextRequest = none ∧
    ((inState .running).pushRecord (recordOf 1 .success (.ring 0))).fu.posting = [recordOf 1 .success (.ring 0)] := by
  decide

theorem witness_FollowingAnswersThenHeader :
    (let s := granted .running 44 37 9 .writing [writeAt .following 32, writeAt .following 64]
     s.resetAsserted = false ∧ (s.cu.state = .running ∨ s.cu.state = .stopping) ∧ s.cw.grant = .writing ∧
     s.cw.granted = some { requester := .bs 2, record := recordOf 9 .success (.ring 0) } ∧
     takeWrite .following 1 s.hp.writes = some (writeAt .following 64, [writeAt .following 32]) ∧
     ∃ u ∈ [writeAt .following 32], u.kind = .following) ∧
    (let s := granted .stopping 44 37 9 .writing [writeAt .following 32, writeAt .status 64]
     takeWrite .following 0 s.hp.writes = some (writeAt .following 32, [writeAt .status 64]) ∧
     ∀ u ∈ [writeAt .status 64], u.kind ≠ .following) ∧
    takeWrite .header 0 [writeAt .status 64] = none := by decide

theorem witness_HeaderAnswerPostsRecord :
    (let s := granted .stopping 44 37 9 .header [writeAt .header 32]
     s.resetAsserted = false ∧ (s.cu.state = .running ∨ s.cu.state = .stopping) ∧ s.cw.grant = .header ∧
     s.cw.granted = some { requester := .bs 2, record := recordOf 9 .success (.ring 0) } ∧
     takeWrite .header 0 s.hp.writes = some (writeAt .header 32, []) ∧
     (s.bank 2).queue = queued example1 false :: []) ∧
    ([queued example1 true] ≠ []) := by decide

theorem witness_SlotWriteErrorIsFatal :
    (let ws := [writeAt .following 32, writeAt .header 64]
     takeWrite .following 0 ws = some (writeAt .following 32, [writeAt .header 64]) ∧
     takeWrite .header 0 ws = some (writeAt .header 64, [writeAt .following 32]) ∧
     (writesIn .running ws).hp.writes = ws ∧ (writesIn .running ws).resetAsserted = false) ∧
    ((writesIn .stopping []).cu.state = .running ∨ (writesIn .stopping []).cu.state = .stopping) ∧
    (writesIn .faulted []).cu.state = .faulted ∧ (writesIn .resetting []).cu.state = .resetting := by decide

/-- 08 section 8.9.4: the tail itself is accepted and the index past it is not; a stalled record that fits exactly and
one that does not. -/
theorem witness_CqHeadReleasesSlots :
    (let s := granted .running 53 37 1 .stalled []
     s.resetAsserted = false ∧ (s.cu.state = .running ∨ s.cu.state = .stopping ∨ s.cu.state = .stopped) ∧
     ((53 : Index) - s.cw.head).toNat ≤ (s.cw.tail - s.cw.head).toNat ∧
     ¬ ((54 : Index) - s.cw.head).toNat ≤ (s.cw.tail - s.cw.head).toNat ∧ s.cw.grant = .stalled ∧
     s.cw.granted = some { requester := .bs 2, record := recordOf 1 .success (.ring 0) } ∧
     (recordOf 1 .success (.ring 0)).slotCount ≤ s.cw.size - (s.cw.tail - 38).toNat) ∧
    (let s := granted .running 44 36 9 .stalled []
     s.cw.size - (s.cw.tail - 36).toNat < (recordOf 9 .success (.ring 0)).slotCount ∧
     (recordOf 9 .success (.ring 0)).slotCount ≤ s.cw.size - (s.cw.tail - 37).toNat ∧
     1 < (recordOf 9 .success (.ring 0)).slotCount) ∧
    ((inState .stopped).cw.grant ≠ .stalled ∧ (inState .stopped).cu.state = .stopped ∧
      ((0 : Index) - (inState .stopped).cw.head).toNat ≤
        ((inState .stopped).cw.tail - (inState .stopped).cw.head).toNat) ∧
    (inState .resetting).cu.state = .resetting ∧ (inState .faulted).cu.state ≠ .resetting := by decide

/-- Both return states with an aligned and an unaligned setup address, every other state, drained and not. -/
theorem witness_ControlWrites :
    (State.reset.resetAsserted = false ∧ State.reset.cu.state = ReturnState.off.control ∧
      State.reset.cu.setupAddr.toNat % 64 = 0) ∧
    ((inState .stopped).cu.state = ReturnState.stopped.control) ∧
    ((after (.setupAddrLo 63) State.reset).cu.state = ReturnState.off.control ∧
      (after (.setupAddrLo 63) State.reset).cu.setupAddr.toNat % 64 ≠ 0) ∧
    (loading false).cu.state = .loading ∧ (inState .running).cu.state = .running ∧
    ((inState .stopping).cu.state = .stopping ∨ (inState .stopping).cu.state = .faulted) ∧
    (inState .faulted).cu.state = .faulted ∧ (inState .resetting).cu.state = .resetting ∧
    ({ inState .running with
      cu := { (inState .running).cu with state := .stopping, enable := false } }).drained = true ∧
    (writesIn .running [writeAt .status 0]).drained = false := by decide

theorem witness_DrainEntersStopped :
    let s := inState .stopping
    s.resetAsserted = false ∧ s.cu.state = .stopping ∧ s.hp.read = none ∧ s.fu.posting = [] ∧
    (∀ n, (s.ring n).state = .idle ∨ (s.ring n).state = .disabled ∨ (s.ring n).state = .error) ∧
    (∀ b, (s.bank b).queue = [] ∧ (s.bank b).seq = .idle) ∧ s.cw.grant = .none ∧
    (∀ b, s.request (.bs b) = none) ∧ s.request .fu = none ∧ s.hp.inFlight = 0 ∧
    (inState .running).cu.state ≠ .stopping := by decide

/-- An abandoned load, a block that fails, and one that passes with the smallest and the largest ring. -/
theorem witness_SetupAnswerEndsLoading :
    ((loading true).resetAsserted = false ∧ (loading true).cu.state = .loading ∧
      (loading true).hp.setupRead = some 0x10040 ∧ (loading true).cu.loadAbandoned = true) ∧
    (loading false).cu.loadAbandoned = false ∧ setupFailure (setupOf 4 13 0x20040) = some 12 ∧
    setupFailure (setupOf 4 12 0x20040) = none ∧
    ((loading false).setControl .resetting).resetAsserted = false ∧
    ((loading false).setControl .resetting).cu.state = .resetting ∧
    ((loading false).setControl .resetting).hp.setupRead = some 0x10040 := by decide

theorem witness_SetupBlockChecksInOrder :
    (loading false).resetAsserted = false ∧ (loading false).cu.state = .loading ∧
    (loading false).cu.loadAbandoned = false ∧ (loading false).hp.setupRead = some 0x10040 ∧
    setupFailure (setupOf 3 5 0x20040) = some 8 := by decide

theorem witness_SetupAddressByControllerState :
    (inState .off).resetAsserted = false ∧ ((inState .off).cu.state = .off ∨ (inState .off).cu.state = .stopped) ∧
    ((inState .faulted).cu.state = .loading ∨ (inState .faulted).cu.state = .running ∨
      (inState .faulted).cu.state = .stopping ∨ (inState .faulted).cu.state = .faulted) ∧
    (inState .resetting).cu.state = .resetting := by decide

/-- The highest flag, kept by a write to EVENT_MASK. -/
theorem witness_EventFlagsAndLine :
    (let s := { inState .running with eu := { cause := 256, mask := 0 } }
     s.resetAsserted = false ∧ s.cu.state ≠ .resetting ∧ wellFormed (.eventMask 0) = true ∧
     exec (.eventMask 0) s = .next s ∧ s.eu.cause.getLsbD 8 = true ∧ Instr.eventMask 0 ≠ .softResetComplete ∧
     Instr.eventMask 0 ≠ .resetNAsserted) ∧
    (∀ v, Instr.eventMask 0 ≠ .eventCause v) ∧ (∀ on, Instr.eventMask 0 ≠ .softReset on) := by
  refine ⟨⟨by decide, by decide, by decide, rfl, by decide, by decide, by decide⟩, ?_, ?_⟩
  · intro v h; cases h
  · intro on h; cases h

/-- A disabled lane, the first and the last unused word, and the words that are written. -/
theorem witness_RegisterWindowAccesses :
    State.reset.resetAsserted = false ∧ (14 : BitVec 4) ≠ 15 ∧ (0x28 : BitVec 6).toNat / 4 = 10 ∧
    (0x3F : BitVec 6).toNat / 4 = 15 ∧ (0x1B : BitVec 6).toNat / 4 = 6 ∧ (0x14 : BitVec 6).toNat / 4 = 5 ∧
    (0x24 : BitVec 6).toNat / 4 = 9 ∧ (0x03 : BitVec 6).toNat / 4 = 0 ∧ (0x07 : BitVec 6).toNat / 4 = 1 ∧
    (0x0B : BitVec 6).toNat / 4 = 2 ∧ (0x0F : BitVec 6).toNat / 4 = 3 ∧ (0x13 : BitVec 6).toNat / 4 = 4 ∧
    (0x1F : BitVec 6).toNat / 4 = 7 ∧ (0x23 : BitVec 6).toNat / 4 = 8 := by decide

theorem witness_FaultedLeftOnlyByReset :
    (wellFormed .drainComplete = true ∧ (inState .faulted).cu.state = .faulted ∧
      exec .drainComplete (inState .faulted) = .next (inState .faulted) ∧ Instr.drainComplete ≠ .resetNAsserted) ∧
    ∀ on, Instr.drainComplete ≠ .softReset on := by
  refine ⟨⟨by decide, by decide, rfl, by decide⟩, ?_⟩
  intro on h; cases h

/-- A publication, so that the second clause is met. -/
theorem witness_GenerationChangesAtPublish :
    (wellFormed (.refDone 1) = true ∧
      exec (.refDone 1) (converting 655360 1 0 false) = .next (after (.refDone 1) (converting 655360 1 0 false)) ∧
      Instr.refDone 1 ≠ .softResetComplete ∧ Instr.refDone 1 ≠ .resetNAsserted) ∧
    ∀ on, Instr.refDone 1 ≠ .softReset on := by
  refine ⟨⟨by decide, rfl, by decide, by decide⟩, ?_⟩
  intro on h; cases h

/-! A state with a command that waits, which satisfies the five invariants. -/

/-- The reset state with DRAIN_COMPLETE in its queue. -/
def waiting : State := { State.reset with pending := [.drainComplete] }

theorem waiting_steps : step waiting = .next State.reset := rfl

theorem waiting_grant : waiting.GrantSound := ⟨by decide, fun g h => by cases h⟩

theorem witness_StepKeepsBanksSound : waiting.BanksSound ∧ step waiting = .next State.reset := by
  refine ⟨?_, waiting_steps⟩
  unfold State.BanksSound BankSeq.Sound
  decide

theorem witness_StepKeepsLeasesSound : waiting.LeasesSound ∧ step waiting = .next State.reset := by
  refine ⟨⟨witness_StepKeepsBanksSound.1, waiting_grant, fun b r => ?_⟩, waiting_steps⟩
  fin_cases b <;> cases r <;> exact ⟨by unfold RefEntry.MarksSound; decide, by decide, by decide⟩

theorem witness_StepKeepsHoldsSound : waiting.HoldsSound ∧ step waiting = .next State.reset := by
  refine ⟨⟨witness_StepKeepsBanksSound.1, waiting_grant, ⟨by decide, by decide, fun b h e => ?_⟩,
    fun _ b => ⟨?_, fun h e => ?_⟩⟩, waiting_steps⟩
  · fin_cases b <;> cases e
  · fin_cases b <;> exact ⟨fun h => (by cases h), fun h => h.elim⟩
  · fin_cases b <;> cases e

theorem witness_StepKeepsRingsSound : waiting.RingsSound ∧ step waiting = .next State.reset := by
  refine ⟨⟨waiting_grant, fun n => ?_, ?_, List.Pairwise.nil, fun _ _ _ => by decide⟩, waiting_steps⟩
  · fin_cases n <;> (unfold SubRing.Sound; decide)
  · intro r h; cases h

theorem witness_StepKeepsCompletionSound : waiting.CompletionSound ∧ step waiting = .next State.reset :=
  ⟨⟨by decide, by decide, by decide, by decide, by decide, by decide⟩, waiting_steps⟩

end Sys2Proof.Tests
end

