-- ==== Sys2Proof/Proofs/ConverterCommands.lean ====
section
/-! PROOFS. The commands a bank sequencer gives its converter cell (01 section 1.3, 01:R16), and the sequencer states
in which an outcome of the cell is disregarded. -/
namespace Sys2Proof.Machine

open Sys2Proof

/-! ### The state a start command enters -/

@[simp] theorem startState_zero : startState 0 = .awaitEdge := rfl

/-- A settle delay counts in units, so it is above 0 as a tick count exactly when it is above 0 as a delay. -/
@[simp] theorem startState_settleUnits (d : Nat) :
    startState (d * settleUnitTicks) = if 0 < d then .settling else .awaitEdge := by
  have hpos : 0 < d * settleUnitTicks ↔ 0 < d := Nat.mul_pos_iff_of_pos_right (by decide)
  simp only [startState, hpos]

@[simp] theorem Cell.sampleSettle_of_selected {c : Cell} {ch : Channel} (hsel : c.mux = .channel ch) (d : Nat) :
    c.sampleSettle ch d = 0 := if_pos hsel

@[simp] theorem Cell.sampleSettle_of_not_selected {c : Cell} {ch : Channel} (hsel : c.mux ≠ .channel ch) (d : Nat) :
    c.sampleSettle ch d = d * settleUnitTicks := if_neg hsel

/-! ### Start reference -/

theorem Cell.startReference_of_stopped {c : Cell} (hst : c.state = .stopped) (r : Ref) (n : BitVec 16) (d : Nat) :
    c.startReference r n d = { c with
      state := if 0 < d then .settling else .awaitEdge, mux := .ref r, kind := .reference, param := n.setWidth 24,
      settleCount := d * settleUnitTicks, gateTimer := 0 } := by
  simp [Cell.startReference, hst]

theorem Cell.startReference_of_not_stopped {c : Cell} (hst : c.state ≠ .stopped) (r : Ref) (n : BitVec 16) (d : Nat) :
    c.startReference r n d = c := if_neg hst

/-! ### Start sample -/

/-- The settle count decides between SETTLING and AWAIT_EDGE, whatever the selection was. -/
theorem Cell.startSample_of_stopped {c : Cell} (hst : c.state = .stopped) (ch : Channel) (g : BitVec 24) (d : Nat) :
    c.startSample ch g d = { c with
      state := startState (c.sampleSettle ch d), mux := .channel ch, kind := .sense, param := g,
      settleCount := c.sampleSettle ch d, gateTimer := 0 } := if_pos hst

theorem Cell.startSample_of_not_stopped {c : Cell} (hst : c.state ≠ .stopped) (ch : Channel) (g : BitVec 24)
    (d : Nat) : c.startSample ch g d = c := if_neg hst

theorem Cell.startSample_of_not_selected {c : Cell} {ch : Channel} (hst : c.state = .stopped)
    (hsel : c.mux ≠ .channel ch) (g : BitVec 24) (d : Nat) :
    c.startSample ch g d = { c with
      state := if 0 < d then .settling else .awaitEdge, mux := .channel ch, kind := .sense, param := g,
      settleCount := d * settleUnitTicks, gateTimer := 0 } := by
  simp [Cell.startSample_of_stopped hst, hsel]

/-- A sample of the channel already selected does not settle, and leaves the selection as it is. -/
theorem Cell.startSample_of_selected {c : Cell} {ch : Channel} (hst : c.state = .stopped)
    (hsel : c.mux = .channel ch) (g : BitVec 24) (d : Nat) :
    c.startSample ch g d = { c with
      state := .awaitEdge, kind := .sense, param := g, settleCount := 0, gateTimer := 0 } := by
  simp [Cell.startSample_of_stopped hst, hsel]

/-! ### Stop -/

@[simp] theorem Cell.stop_oscillatorEnabled (c : Cell) : c.stop.oscillatorEnabled = false := rfl

@[simp] theorem Cell.stop_capacitorGrounded (c : Cell) : c.stop.capacitorGrounded = true := by
  simp [Cell.capacitorGrounded]

/-! ### Outcomes that are disregarded -/

/-- 01:R16. A sequencer in neither REFERENCE nor MEASURING waits for no window. -/
theorem State.takeOutcome_disregarded {s : State} {b : Bank} (href : (s.bank b).seq ≠ .reference)
    (hmeas : (s.bank b).seq ≠ .measuring) (o : Outcome) : s.takeOutcome b o = s := by
  unfold State.takeOutcome
  split
  case h_1 h => exact absurd h href
  case h_2 h => exact absurd h hmeas
  all_goals rfl

/-! ### The statement -/

/-- Settles O11: start reference and start sample by the cell's state and its selection, stop in every state, and a
POSTING sequencer as one that waits for no window. -/
theorem startAndStopCommands : Obligations.StartAndStopCommands := by
  refine ⟨⟨?reference, ?newChannel, ?sameChannel, ?notTaken⟩, ?stop, ?posting⟩
  case reference => exact fun _ r n d hst => Cell.startReference_of_stopped hst r n d
  case newChannel => exact fun _ _ g d hst hsel => Cell.startSample_of_not_selected hst hsel g d
  case sameChannel => exact fun _ _ g d hst hsel => Cell.startSample_of_selected hst hsel g d
  case notTaken =>
    exact fun _ r ch n g d hst =>
      ⟨Cell.startReference_of_not_stopped hst r n d, Cell.startSample_of_not_stopped hst ch g d⟩
  case stop => exact fun c => ⟨rfl, c.stop_oscillatorEnabled, c.stop_capacitorGrounded⟩
  case posting =>
    intro b o s hpost
    exact State.takeOutcome_disregarded (by simp [hpost]) (by simp [hpost]) o

end Sys2Proof.Machine
end

section
/-! PROOFS. The hold release of the supply monitor (05:R87). -/
namespace Sys2Proof.Machine

open Sys2Proof

/-! ### The empty hold set and the pending parameters -/

/-- An empty hold set is the reset value of `holders`. -/
theorem SupplyMonitor.holders_eq_of_noHolders {m : SupplyMonitor} (h : m.noHolders = true) :
    m.holders = .replicate 4 none := by
  have hnone := m.noHolders_iff.mp h
  ext i hi : 1
  simpa using hnone ⟨i, hi⟩

/-- 05:R87. After the entry to OFF no parameters are pending, and those in force are the pending ones when present. -/
theorem SupplyMonitor.applyPending_eq (m : SupplyMonitor) :
    m.applyPending = { m with
      pendingParams := none
      level := match m.pendingParams with
        | none => m.level
        | some p => p.level
      settleTime := match m.pendingParams with
        | none => m.settleTime
        | some p => p.settleTime } := by
  obtain ⟨_, _, _, _, _, pending, _⟩ := m
  cases pending <;> rfl

/-- Without holder `b` the set is empty exactly when no other bank has a holder. -/
theorem State.setHolder_none_noHolders_iff (s : State) (b : Bank) :
    (s.setHolder b none).sm.noHolders = true ↔ ∀ c : Bank, c ≠ b → s.holder c = none := by
  have holder_none (c : Bank) : (s.setHolder b none).sm.holders[c] = none ↔ (c ≠ b → s.holder c = none) := by
    change (s.setHolder b none).holder c = none ↔ _
    rw [State.setHolder_holder]
    by_cases h : b = c
    · simp [h]
    · simp [h, Ne.symm h]
  simp only [SupplyMonitor.noHolders_iff, holder_none]

/-! ### The release -/

theorem State.releaseHold_of_no_holder {s : State} {b : Bank} (hb : s.holder b = none) : s.releaseHold b = s := by
  simp [State.releaseHold, hb]

theorem State.releaseHold_of_others {s : State} {b : Bank} (hb : (s.holder b).isSome)
    (hothers : ∃ c, c ≠ b ∧ (s.holder c).isSome) : s.releaseHold b = s.setHolder b none := by
  obtain ⟨c, hcb, hc⟩ := hothers
  have hset : ¬ (s.setHolder b none).sm.noHolders = true := by
    rw [State.setHolder_none_noHolders_iff]
    intro hnone
    simp [hnone c hcb] at hc
  simp only [State.releaseHold, if_pos hb, if_neg hset]
  rfl

theorem State.releaseHold_of_last {s : State} {b : Bank} (hb : (s.holder b).isSome)
    (hlast : ∀ c, c ≠ b → s.holder c = none) :
    s.releaseHold b = { s with sm := s.sm.clearHolds.applyPending } := by
  have hset := (s.setHolder_none_noHolders_iff b).mpr hlast
  have hclear : (s.setHolder b none).sm.powerOff = s.sm.clearHolds :=
    congrArg (fun hs => { s.sm.powerOff with holders := hs }) (SupplyMonitor.holders_eq_of_noHolders hset)
  simp only [State.releaseHold, if_pos hb, if_pos hset, hclear]

/-! ### The statement -/

/-- Settles O26: a bank without a hold, a release that leaves another holder, and the release that empties the set,
which clears the monitor and puts the pending parameters in force. -/
theorem holdReleaseTurnsMonitorOff : Obligations.HoldReleaseTurnsMonitorOff := by
  intro b s
  refine ⟨State.releaseHold_of_no_holder, State.releaseHold_of_others, fun hb hlast => ?_⟩
  rw [State.releaseHold_of_last hb hlast, SupplyMonitor.applyPending_eq]
  rfl

end Sys2Proof.Machine
end

section
/-! PROOFS. The fields of a descriptor (07 section 7.1) and the checks of a descriptor and of a template (06:R101). -/
namespace Sys2Proof.Machine

open Sys2Proof

/-! ### Little-endian fields as numbers -/

/-- The high part of an appended word counts in units of the low part's range. -/
theorem toNat_append_eq_add {m n : Nat} (hi : BitVec m) (lo : BitVec n) :
    (hi ++ lo).toNat = lo.toNat + 2 ^ n * hi.toNat := by
  rw [BitVec.toNat_append, ← Nat.shiftLeft_add_eq_or_of_lt lo.isLt, Nat.shiftLeft_eq, Nat.mul_comm, Nat.add_comm]

theorem halfAt_toNat (d : Bytes) (i : Nat) :
    (halfAt d i).toNat = (byteAt d i).toNat + 256 * (byteAt d (i + 1)).toNat :=
  toNat_append_eq_add _ _

theorem wordAt_toNat (d : Bytes) (i : Nat) :
    (wordAt d i).toNat = (halfAt d i).toNat + 65536 * (halfAt d (i + 2)).toNat :=
  toNat_append_eq_add _ _

theorem dwordAt_toNat (d : Bytes) (i : Nat) :
    (dwordAt d i).toNat = (wordAt d i).toNat + 4294967296 * (wordAt d (i + 4)).toNat :=
  toNat_append_eq_add _ _

theorem byteAt_getLsbD (d : Bytes) (i k : Nat) :
    (byteAt d i).getLsbD k = ((byteAt d i).toNat / 2 ^ k % 2 == 1) :=
  Nat.testBit_eq_decide_div_mod_eq

/-! ### Fields with a range of their own (07 section 7.1) -/

theorem descBank_val {d : Bytes} (h : (byteAt d 4).toNat ≤ 3) : (descBank d).val = (byteAt d 4).toNat :=
  Nat.mod_eq_of_lt (Nat.lt_succ_of_le h)

theorem descChannel_val {d : Bytes} {i : Nat} (h : (byteAt d (20 + i)).toNat ≤ 15) :
    (descChannel d i).val = (byteAt d (20 + i)).toNat :=
  Nat.mod_eq_of_lt (Nat.lt_succ_of_le h)

theorem descEntry_val {d : Bytes} (h : (byteAt d 4).toNat ≤ 7) : (descEntry d).val = (byteAt d 4).toNat :=
  Nat.mod_eq_of_lt (Nat.lt_succ_of_le h)

theorem descRef_of_zero {d : Bytes} (h : (byteAt d 5).toNat = 0) : descRef d = .a :=
  if_pos (BitVec.eq_of_toNat_eq h)

theorem descRef_of_one {d : Bytes} (h : (byteAt d 5).toNat = 1) : descRef d = .b :=
  if_neg fun h0 => by simp [h0] at h

theorem descEnabled_eq (d : Bytes) : descEnabled d = ((byteAt d 5).toNat != 0) := by
  simp [descEnabled, bne, BitVec.toNat_eq]

/-! ### Kinds -/

theorem kindOf_eq_some_iff {x : Byte} {k : Kind} : kindOf x = some k ↔ x = k.code := by
  constructor
  · intro h
    have hcode := List.find?_some h
    exact (eq_of_beq hcode).symm
  · rintro rfl
    cases k <;> rfl

theorem kindOf_of_toNat {x : Byte} (k : Kind) (h : x.toNat = k.code.toNat) : kindOf x = some k :=
  kindOf_eq_some_iff.mpr (BitVec.eq_of_toNat_eq h)

theorem Kind.code_range (k : Kind) : 0 < k.code.toNat ∧ k.code.toNat ≤ 8 := by
  cases k <;> decide

/-- 06:R101. A kind byte of 0 or above 8 names no kind. -/
theorem kindOf_eq_none {x : Byte} (h : x.toNat = 0 ∨ 8 < x.toNat) : kindOf x = none := by
  cases hk : kindOf x with
  | none => rfl
  | some k =>
    have hcode := kindOf_eq_some_iff.mp hk
    have hrange := k.code_range
    rw [← hcode] at hrange
    omega

/-! ### The first failing check -/

/-- What a list of checks decides: the failure of its first failing check. -/
def firstFailure (d : Bytes) (checks : List (CheckCode × Bool)) : Option CheckFailure :=
  (checks.find? fun c => c.2).map fun c => failureOf d c.1

@[simp] theorem firstFailure_nil (d : Bytes) : firstFailure d [] = none := rfl

@[simp] theorem firstFailure_cons (d : Bytes) (c : CheckCode) (p : Bool) (l : List (CheckCode × Bool)) :
    firstFailure d ((c, p) :: l) = if p then some (failureOf d c) else firstFailure d l := by
  unfold firstFailure
  rw [find_check_cons]
  split <;> rfl

@[simp] theorem failureOf_of_ne {c : CheckCode} (d : Bytes) (h : c ≠ .badChannel) : failureOf d c = ⟨c, 0⟩ := by
  simp [failureOf, h]

theorem failureOf_badChannel {d : Bytes} {i : Nat} (h : badChannelPosition d = some i) :
    failureOf d .badChannel = ⟨.badChannel, i⟩ := by
  simp [failureOf, h]

theorem checkDescriptor_of_kind {d : Bytes} {k : Kind} (h : kindOf (descKind d) = some k) :
    checkDescriptor d = firstFailure d (kindChecks d k) := by
  simp only [checkDescriptor, h]
  rfl

theorem checkDescriptor_of_no_kind {d : Bytes} (h : kindOf (descKind d) = none) :
    checkDescriptor d = some ⟨.badKind, 0⟩ := by
  simp [checkDescriptor, h]

/-! ### The channel list -/

theorem badChannelPosition_eq_some {d : Bytes} {i : Nat} (hi : i < descChannelCount d)
    (hbad : 15 < (byteAt d (20 + i)).toNat) (hfirst : ∀ j, j < i → ¬ 15 < (byteAt d (20 + j)).toNat) :
    badChannelPosition d = some i := by
  rw [badChannelPosition, List.find?_range_eq_some]
  exact ⟨decide_eq_true hbad, List.mem_range.mpr hi, fun j hj => by simpa using hfirst j hj⟩

theorem badChannelPosition_eq_none {d : Bytes}
    (hgood : ∀ i, i < descChannelCount d → ¬ 15 < (byteAt d (20 + i)).toNat) : badChannelPosition d = none := by
  rw [badChannelPosition, List.find?_range_eq_none]
  exact fun i hi => by simpa using hgood i hi

/-! ### The table of 06:R101, kind by kind -/

section Table

variable {d : Bytes}

/-- The checks of a MEASURE that follow the channel list. -/
def measureValueFailure (d : Bytes) : Option CheckFailure :=
  if descSamples d = 0 ∨ 8 < descSamples d then some ⟨.badSamples, 0⟩
  else if (descNRef d).toNat < 64 then some ⟨.badNRef, 0⟩
  else if descLimits d = true ∧ (descLimitHigh d).toNat < (descLimitLow d).toNat then some ⟨.badLimits, 0⟩
  else none

theorem checkDescriptor_measure (h : kindOf (descKind d) = some .measure) :
    checkDescriptor d =
      if 3 < (byteAt d 4).toNat then some ⟨.badBank, 0⟩
      else if 1 < (byteAt d 5).toNat then some ⟨.badRef, 0⟩
      else if descChannelCount d = 0 ∨ 16 < descChannelCount d then some ⟨.badChannelCount, 0⟩
      else ((badChannelPosition d).map (CheckFailure.mk .badChannel)).or (measureValueFailure d) := by
  rw [checkDescriptor_of_kind h]
  cases hpos : badChannelPosition d with
  | none => simp [kindChecks, measureValueFailure, hpos]
  | some i => simp [kindChecks, failureOf_badChannel hpos, hpos]

theorem checkDescriptor_setBank (h : kindOf (descKind d) = some .setBank) :
    checkDescriptor d = if 3 < (byteAt d 4).toNat then some ⟨.badBank, 0⟩ else none := by
  simp [checkDescriptor_of_kind h, kindChecks]

theorem checkDescriptor_invalidateRef (h : kindOf (descKind d) = some .invalidateRef) :
    checkDescriptor d =
      if 3 < (byteAt d 4).toNat then some ⟨.badBank, 0⟩
      else if (byteAt d 5).getLsbD 0 = false ∧ (byteAt d 5).getLsbD 1 = false then some ⟨.badRefMask, 0⟩
      else none := by
  simp [checkDescriptor_of_kind h, kindChecks, descNames]

theorem checkDescriptor_reportRefs (h : kindOf (descKind d) = some .reportRefs) : checkDescriptor d = none := by
  simp [checkDescriptor_of_kind h, kindChecks]

theorem checkDescriptor_setSupply (h : kindOf (descKind d) = some .setSupply) :
    checkDescriptor d =
      if 15 < descLevel d then some ⟨.badLevel, 0⟩
      else if descSupplySettle d = 0 ∨ 16 < descSupplySettle d then some ⟨.badSettle, 0⟩
      else none := by
  simp [checkDescriptor_of_kind h, kindChecks]

theorem checkDescriptor_setSchedule (h : kindOf (descKind d) = some .setSchedule) :
    checkDescriptor d =
      if 7 < (byteAt d 4).toNat then some ⟨.badEntry, 0⟩
      else if descPeriod d = 0 then some ⟨.badPeriod, 0⟩
      else if (descTemplate d).toNat % 64 ≠ 0 then some ⟨.badTemplateAddr, 0⟩
      else none := by
  simp [checkDescriptor_of_kind h, kindChecks]

theorem checkDescriptor_clearSchedule (h : kindOf (descKind d) = some .clearSchedule) :
    checkDescriptor d = if 7 < (byteAt d 4).toNat then some ⟨.badEntry, 0⟩ else none := by
  simp [checkDescriptor_of_kind h, kindChecks]

theorem checkDescriptor_fence (h : kindOf (descKind d) = some .fence) : checkDescriptor d = none := by
  simp [checkDescriptor_of_kind h, kindChecks]

end Table

/-! ### A write behind a field leaves it as it is -/

section Behind

variable {d : Bytes} {i j : Nat} {v : Byte}

theorem byteAt_set_of_lt (h : j < i) : byteAt (d.set i v) j = byteAt d j := by
  simp [byteAt, List.getD_eq_getElem?_getD, List.getElem?_set_ne h.ne']

theorem halfAt_set_of_lt (h : j + 1 < i) : halfAt (d.set i v) j = halfAt d j := by
  simp (disch := omega) only [halfAt, byteAt_set_of_lt]

theorem wordAt_set_of_lt (h : j + 3 < i) : wordAt (d.set i v) j = wordAt d j := by
  simp (disch := omega) only [wordAt, halfAt_set_of_lt]

theorem dwordAt_set_of_lt (h : j + 7 < i) : dwordAt (d.set i v) j = dwordAt d j := by
  simp (disch := omega) only [dwordAt, wordAt_set_of_lt]

theorem descKind_set (h : 36 ≤ i) : descKind (d.set i v) = descKind d :=
  byteAt_set_of_lt (by omega)

theorem descLimits_set (h : 36 ≤ i) : descLimits (d.set i v) = descLimits d :=
  congrArg (·.getLsbD 2) (byteAt_set_of_lt (by omega))

theorem descSamples_set (h : 36 ≤ i) : descSamples (d.set i v) = descSamples d :=
  congrArg BitVec.toNat (byteAt_set_of_lt (by omega))

theorem descNRef_set (h : 36 ≤ i) : descNRef (d.set i v) = descNRef d :=
  halfAt_set_of_lt (by omega)

theorem descChannelCount_set (h : 36 ≤ i) : descChannelCount (d.set i v) = descChannelCount d :=
  congrArg BitVec.toNat (byteAt_set_of_lt (by omega))

theorem descLimitLow_set (h : 36 ≤ i) : descLimitLow (d.set i v) = descLimitLow d :=
  wordAt_set_of_lt (by omega)

theorem descLimitHigh_set (h : 36 ≤ i) : descLimitHigh (d.set i v) = descLimitHigh d :=
  wordAt_set_of_lt (by omega)

theorem descLevel_set (h : 36 ≤ i) : descLevel (d.set i v) = descLevel d :=
  congrArg BitVec.toNat (byteAt_set_of_lt (by omega))

theorem descSupplySettle_set (h : 36 ≤ i) : descSupplySettle (d.set i v) = descSupplySettle d :=
  congrArg BitVec.toNat (byteAt_set_of_lt (by omega))

theorem descPeriod_set (h : 36 ≤ i) : descPeriod (d.set i v) = descPeriod d :=
  halfAt_set_of_lt (by omega)

theorem descTemplate_set (h : 36 ≤ i) : descTemplate (d.set i v) = descTemplate d :=
  dwordAt_set_of_lt (by omega)

theorem measureValueFailure_set (h : 36 ≤ i) : measureValueFailure (d.set i v) = measureValueFailure d := by
  rw [measureValueFailure, measureValueFailure, descSamples_set h, descNRef_set h, descLimits_set h,
    descLimitHigh_set h, descLimitLow_set h]

/-- The channel list ends at byte 35 only for a channel_count up to 16, which the check before it ensures. -/
theorem badChannelPosition_set (h : 36 ≤ i) (hcount : descChannelCount d ≤ 16) :
    badChannelPosition (d.set i v) = badChannelPosition d := by
  rw [badChannelPosition, badChannelPosition, descChannelCount_set h]
  refine List.find?_congr fun j hj => ?_
  have hj' := List.mem_range.mp hj
  rw [byteAt_set_of_lt (by omega)]

theorem checkDescriptor_set_of_measure (h : 36 ≤ i) (hk : kindOf (descKind d) = some .measure) :
    checkDescriptor (d.set i v) = checkDescriptor d := by
  have hk' : kindOf (descKind (d.set i v)) = some .measure := by rw [descKind_set h, hk]
  rw [checkDescriptor_measure hk, checkDescriptor_measure hk', descChannelCount_set h, measureValueFailure_set h,
    byteAt_set_of_lt (show 4 < i by omega), byteAt_set_of_lt (show 5 < i by omega)]
  by_cases hcount : descChannelCount d = 0 ∨ 16 < descChannelCount d
  · simp only [if_pos hcount]
  · rw [badChannelPosition_set h (by omega)]

/-- 07 section 7.1. No check reads a byte from offset 36 on. -/
theorem checkDescriptor_set (h : 36 ≤ i) : checkDescriptor (d.set i v) = checkDescriptor d := by
  have hkind : kindOf (descKind (d.set i v)) = kindOf (descKind d) := by rw [descKind_set h]
  cases hk : kindOf (descKind d) with
  | none => rw [checkDescriptor_of_no_kind hk, checkDescriptor_of_no_kind (hkind.trans hk)]
  | some k =>
    have hk' := hkind.trans hk
    cases k with
    | measure => exact checkDescriptor_set_of_measure h hk
    | setBank =>
      rw [checkDescriptor_setBank hk, checkDescriptor_setBank hk', byteAt_set_of_lt (show 4 < i by omega)]
    | invalidateRef =>
      rw [checkDescriptor_invalidateRef hk, checkDescriptor_invalidateRef hk', byteAt_set_of_lt (show 4 < i by omega),
        byteAt_set_of_lt (show 5 < i by omega)]
    | reportRefs => rw [checkDescriptor_reportRefs hk, checkDescriptor_reportRefs hk']
    | setSupply =>
      rw [checkDescriptor_setSupply hk, checkDescriptor_setSupply hk', descLevel_set h, descSupplySettle_set h]
    | setSchedule =>
      rw [checkDescriptor_setSchedule hk, checkDescriptor_setSchedule hk', byteAt_set_of_lt (show 4 < i by omega),
        descPeriod_set h, descTemplate_set h]
    | clearSchedule =>
      rw [checkDescriptor_clearSchedule hk, checkDescriptor_clearSchedule hk',
        byteAt_set_of_lt (show 4 < i by omega)]
    | fence => rw [checkDescriptor_fence hk, checkDescriptor_fence hk']

end Behind

/-! ### Templates (06 section 6.3.3) -/

theorem checkTemplate_of_measure {d : Bytes} (h : descKind d = 1) : checkTemplate d = checkDescriptor d :=
  if_pos (kindOf_eq_some_iff.mpr h)

theorem checkTemplate_of_not_measure {d : Bytes} (h : descKind d ≠ 1) : checkTemplate d = some ⟨.badKind, 0⟩ := by
  have hk : ¬ kindOf (descKind d) = some .measure := mt kindOf_eq_some_iff.mp h
  simp [checkTemplate, hk]

theorem checkTemplate_set {d : Bytes} {i : Nat} {v : Byte} (h : 36 ≤ i) :
    checkTemplate (d.set i v) = checkTemplate d := by
  by_cases hk : descKind d = 1
  · rw [checkTemplate_of_measure hk, checkTemplate_of_measure ((descKind_set h).trans hk), checkDescriptor_set h]
  · rw [checkTemplate_of_not_measure hk, checkTemplate_of_not_measure (by rwa [descKind_set h])]

/-! ### The statement -/

/-- Settles O33: the offsets of the fields, the table kind by kind (a kind byte outside 1 to 8 first), the bytes that
no check reads, and the templates. -/
theorem firstFailingCheckDecides : Obligations.FirstFailingCheckDecides := by
  refine ⟨?offsets, ?table, fun d i v hi => ⟨checkDescriptor_set hi, checkTemplate_set hi⟩,
    fun d => ⟨checkTemplate_of_measure, checkTemplate_of_not_measure⟩⟩
  case offsets =>
    intro d _ byte half word bit
    have hhalf (i : Nat) : (halfAt d i).toNat = half i := halfAt_toNat d i
    have hword (i : Nat) : (wordAt d i).toNat = word i := by rw [wordAt_toNat, hhalf, hhalf]
    have hdword (i : Nat) : (dwordAt d i).toNat = word i + 4294967296 * word (i + 4) := by
      rw [dwordAt_toNat, hword, hword]
    have hbit (i k : Nat) : (byteAt d i).getLsbD k = bit i k := byteAt_getLsbD d i k
    exact ⟨fun i => ⟨rfl, hhalf i, hword i, hdword i⟩,
      rfl, hbit 1 0, hbit 1 1, hbit 1 2, hhalf 2,
      descBank_val, descRef_of_zero, descRef_of_one,
      rfl, rfl, hhalf 8, rfl, hword 12, hword 16,
      fun _ _ => descChannel_val,
      descEnabled_eq d, hhalf 6,
      hbit 5 0, hbit 5 1,
      rfl, rfl,
      descEntry_val, hbit 5 0, hhalf 6, hhalf 8, hdword 12⟩
  case table =>
    intro d k b4 bank ref count bad samples nRef limits
    refine ⟨fun hk => checkDescriptor_of_no_kind (kindOf_eq_none hk), fun hk => ?measure,
      fun hk => checkDescriptor_setBank (kindOf_of_toNat .setBank hk),
      fun hk => checkDescriptor_invalidateRef (kindOf_of_toNat .invalidateRef hk),
      fun hk => hk.elim (fun hk => checkDescriptor_reportRefs (kindOf_of_toNat .reportRefs hk))
        (fun hk => checkDescriptor_fence (kindOf_of_toNat .fence hk)),
      fun hk => checkDescriptor_setSupply (kindOf_of_toNat .setSupply hk),
      fun hk => checkDescriptor_setSchedule (kindOf_of_toNat .setSchedule hk),
      fun hk => checkDescriptor_clearSchedule (kindOf_of_toNat .clearSchedule hk)⟩
    rw [checkDescriptor_measure (kindOf_of_toNat .measure hk)]
    refine ⟨fun hbank => if_pos hbank, fun hbank href => ?_, fun hbank href hcount => ?_,
      fun hbank href hcount i hi hbad hfirst => ?_, fun hbank href hcount hgood => ?_⟩
    · rw [if_neg hbank, if_pos href]
    · rw [if_neg hbank, if_neg href, if_pos hcount]
    · rw [if_neg hbank, if_neg href, if_neg hcount, badChannelPosition_eq_some hi hbad hfirst]
      rfl
    · rw [if_neg hbank, if_neg href, if_neg hcount, badChannelPosition_eq_none hgood]
      rfl

end Sys2Proof.Machine
end

section
/-! PROOFS. The posting of a record at the OKAY answer to its header (08:R130, 08:R131, 08:R133), and CQ_HEAD
(08:R134). -/
namespace Sys2Proof.Machine

open Sys2Proof

/-! ### The answer to the header -/

theorem exec_headerWriteAnswer_okay {s : State} {w : BusWrite} {ws : List BusWrite} (hr : s.resetAsserted = false)
    (htake : takeWrite .header 0 s.hp.writes = some (w, ws)) :
    exec (.headerWriteAnswer .okay) s = .next (s.setWrites ws).afterHeader := by
  change Host.Outcome.next (whenReleased _ s) = _
  rw [whenReleased_eq hr, htake]

theorem State.afterHeader_of_granted {s : State} {g : Granted} (hw : s.working = true) (hgrant : s.cw.grant = .header)
    (hgranted : s.cw.granted = some g) : s.afterHeader = s.postRecord g := by
  simp [State.afterHeader, hw, hgrant, hgranted]

/-! ### The posting -/

theorem State.raiseIf_eq (s : State) (p : Bool) (c : Cause) :
    s.raiseIf p c =
      { s with eu := { s.eu with cause := s.eu.cause ||| (if p then (1 : BitVec 9) <<< c.bit else 0) } } := by
  cases p with
  | true => rfl
  | false => simp [State.raiseIf]

/-- 08:R130, 08:R133. The state the notices of a posting find. -/
def State.posted (s : State) (g : Granted) : State :=
  { s with
    cw := s.cw.post g
    eu := { s.eu with
      cause := s.eu.cause ||| (if g.record.flags.notify then 1 else 0) |||
        (if g.record.flags.limitHit then 2 else 0) } }

/-- The causes of a posting are those of its record's flags, whatever the notices do after them. -/
theorem State.postRecord_eq (s : State) (g : Granted) : s.postRecord g = (s.posted g).postingNotices g := by
  simp only [State.postRecord, State.raiseIf_eq]
  rfl

theorem State.sequencerPosted_of_last {s : State} {b : Bank} {q : QueueEntry} (hq : (s.bank b).queue = [q]) :
    s.sequencerPosted b = s.setBank b { s.bank b with queue := [], context := none, seq := .idle } := by
  simp [State.sequencerPosted, hq]

theorem State.sequencerPosted_of_next {s : State} {b : Bank} {q : QueueEntry} {qs : List QueueEntry}
    (hq : (s.bank b).queue = q :: qs) (hqs : qs ≠ []) :
    s.sequencerPosted b =
      (s.setBank b { s.bank b with queue := qs, context := none, seq := .idle }).takeHead b := by
  obtain ⟨next, rest, rfl⟩ := List.exists_cons_of_ne_nil hqs
  simp [State.sequencerPosted, hq]

/-- Settles O42: the answer reaches the posting of the granted record, whose notices go by requester and source; the
sequencer's own notice goes by what its queue holds behind the head. -/
theorem headerAnswerPostsRecord : Obligations.HeaderAnswerPostsRecord := by
  refine ⟨?answer, fun b s q qs hq => ⟨?last, State.sequencerPosted_of_next hq⟩⟩
  case answer =>
    intro s g w ws hr hstate hgrant hgranted htake tail t
    have hposted : (s.setWrites ws).posted g = t := rfl
    have hworking : (s.setWrites ws).working = true := State.working_of_state hstate
    have hafter := State.afterHeader_of_granted (s := s.setWrites ws) hworking hgrant hgranted
    rw [exec_headerWriteAnswer_okay hr htake, hafter, State.postRecord_eq, hposted]
    obtain ⟨requester, record⟩ := g
    simp only [State.postingNotices, State.sourceNotice, State.errorNotice]
    cases requester with
    | bs b => cases record.source <;> rfl
    | fu => cases record.source <;> rfl
  case last =>
    rintro rfl
    exact State.sequencerPosted_of_last hq

/-! ### A write to CQ_HEAD -/

theorem exec_cqHead {s : State} (hr : s.resetAsserted = false) (v : BitVec 32) :
    exec (.cqHead v) s = .next (s.writeCqHead v) :=
  congrArg Host.Outcome.next (whenReleased_eq hr)

theorem cqHeadValue_eq (v : BitVec 32) : cqHeadValue v = v.extractLsb' 0 16 := by
  apply BitVec.eq_of_toNat_eq; simp [cqHeadValue]

theorem CompletionWriter.acceptsHead_iff (w : CompletionWriter) (h : Index) :
    w.acceptsHead h = true ↔ (h - w.head).toNat ≤ (w.tail - w.head).toNat :=
  decide_eq_true_iff

/-- The state after an accepted head, before a stalled record is tested again. -/
def State.setCqHead (s : State) (h : Index) : State := { s with cw := { s.cw with head := h } }

/-- The controller states that accept a CQ_HEAD write (08:R134). -/
def State.takesCqHead (s : State) : Prop :=
  s.cu.state = .running ∨ s.cu.state = .stopping ∨ s.cu.state = .stopped

theorem State.writeCqHead_of_resetting {s : State} (h : s.cu.state = .resetting) (v : BitVec 32) :
    s.writeCqHead v = s := by
  simp [State.writeCqHead, h]

theorem State.writeCqHead_of_accepted {s : State} {v : BitVec 32} (hstate : s.takesCqHead)
    (hfits : s.cw.acceptsHead (cqHeadValue v) = true) :
    s.writeCqHead v = (s.setCqHead (cqHeadValue v)).retestStall := by
  rcases hstate with h | h | h <;> simp [State.writeCqHead, State.setCqHead, h, hfits]

theorem State.writeCqHead_of_refused {s : State} {v : BitVec 32} (hreset : s.cu.state ≠ .resetting)
    (hrefused : ¬ (s.takesCqHead ∧ s.cw.acceptsHead (cqHeadValue v) = true)) :
    s.writeCqHead v = s.raise .hostError := by
  unfold State.writeCqHead
  cases hstate : s.cu.state with
  | resetting => exact absurd hstate hreset
  | off | loading | faulted => rfl
  | running | stopping | stopped =>
    have htakes : s.takesCqHead := by simp [State.takesCqHead, hstate]
    exact if_neg fun hfits => hrefused ⟨htakes, hfits⟩

/-! ### The stall tested again -/

theorem State.issueRecord_of_one {s : State} {r : Record} (h : r.slotCount = 1) : s.issueRecord r = s.issueHeader r :=
  if_pos h.le

theorem State.issueRecord_of_more {s : State} {r : Record} (h : 1 < r.slotCount) :
    s.issueRecord r = { s with
      hp := { s.hp with
        writes := s.hp.writes ++
          (List.range (r.slotCount - 1)).map fun j => s.cw.slotWrite .following r (j + 1) }
      cw := { s.cw with grant := .writing } } :=
  if_neg h.not_ge

theorem State.retestStall_of_not_stalled {s : State} (h : s.cw.grant ≠ .stalled) : s.retestStall = s := if_neg h

theorem State.retestStall_of_no_space {s : State} {g : Granted} (hstalled : s.cw.grant = .stalled)
    (hgranted : s.cw.granted = some g) (hspace : s.cw.free < g.record.slotCount) : s.retestStall = s := by
  simp [State.retestStall, hstalled, hgranted, State.spaceCheck_stalls s g.record hspace.not_ge]

theorem State.retestStall_of_space {s : State} {g : Granted} (hstalled : s.cw.grant = .stalled)
    (hgranted : s.cw.granted = some g) (hspace : g.record.slotCount ≤ s.cw.free) :
    s.retestStall = s.issueRecord g.record := by
  simp [State.retestStall, hstalled, hgranted, State.spaceCheck_fits s g.record hspace]

/-- Settles O44: ignored in RESETTING, refused outside the three states or past the tail, and otherwise taken with
the stalled record, if there is one, tested against the space that the new head leaves. -/
theorem cqHeadReleasesSlots : Obligations.CqHeadReleasesSlots := by
  refine ⟨?write, fun _ => rfl⟩
  intro v s hr h fits tested w slot
  have hvalue : cqHeadValue v = h := cqHeadValue_eq v
  have hfits : s.cw.acceptsHead (cqHeadValue v) = true ↔ fits := by rw [hvalue]; exact s.cw.acceptsHead_iff h
  have taken (htested : tested) (hf : fits) : exec (.cqHead v) s = .next (s.setCqHead h).retestStall := by
    rw [exec_cqHead hr, State.writeCqHead_of_accepted htested (hfits.mpr hf), hvalue]
  refine ⟨?ignored, ?refused, ?notStalled, fun g htested hf hstalled hgranted => ⟨?noSpace, ?oneSlot, ?moreSlots⟩⟩
  case ignored =>
    intro hstate
    rw [exec_cqHead hr, State.writeCqHead_of_resetting hstate]
  case refused =>
    intro hreset hrefused
    rw [← hfits] at hrefused
    rw [exec_cqHead hr, State.writeCqHead_of_refused hreset hrefused]
    rfl
  case notStalled =>
    intro htested hf hgrant
    rw [taken htested hf, State.retestStall_of_not_stalled (s := s.setCqHead h) hgrant]
    rfl
  case noSpace =>
    intro hspace
    rw [taken htested hf, State.retestStall_of_no_space (s := s.setCqHead h) hstalled hgranted hspace]
    rfl
  case oneSlot =>
    intro hspace hone
    rw [taken htested hf, State.retestStall_of_space (s := s.setCqHead h) hstalled hgranted hspace,
      State.issueRecord_of_one hone]
    rfl
  case moreSlots =>
    intro hspace hmore
    rw [taken htested hf, State.retestStall_of_space (s := s.setCqHead h) hstalled hgranted hspace,
      State.issueRecord_of_more hmore]
    rfl

end Sys2Proof.Machine
end

section
/-! PROOFS. The expiry of a schedule entry (09:R142, 09:R143). -/
namespace Sys2Proof.Machine

open Sys2Proof

/-! ### When an expiry is due -/

theorem State.expiryDue_iff (s : State) (e : Entry) :
    s.expiryDue e = true ↔
      s.cu.state = .running ∧ (s.entry e).state ≠ .free ∧ (s.entry e).nextExpiry = s.now := by
  simp [State.expiryDue, and_assoc]

theorem State.dueAtEntry_of_due {s : State} {e : Entry} (h : s.expiryDue e = true) :
    s.dueAtEntry e = s.expire e :=
  if_pos h

theorem State.dueAtEntry_of_not_due {s : State} {e : Entry} (h : ¬ s.expiryDue e = true) : s.dueAtEntry e = s :=
  if_neg h

/-- The command takes the entry's expiry by the rule by which a tick of the time base does. -/
theorem exec_scheduleExpiry (e : Entry) (s : State) :
    exec (.scheduleExpiry e) s = .next (whenReleased (fun s => s.dueAtEntry e) s) := rfl

theorem exec_scheduleExpiry_of_due {e : Entry} {s : State} (hr : s.resetAsserted = false)
    (h : s.expiryDue e = true) : exec (.scheduleExpiry e) s = .next (s.expire e) := by
  rw [exec_scheduleExpiry, whenReleased_eq hr, State.dueAtEntry_of_due h]

/-- Without a due expiry the answer does not depend on RESET_N. -/
theorem exec_scheduleExpiry_of_not_due {e : Entry} {s : State} (h : ¬ s.expiryDue e = true) :
    exec (.scheduleExpiry e) s = .next s := by
  rw [exec_scheduleExpiry, whenReleased, State.dueAtEntry_of_not_due h, ite_self]

/-! ### The expiry -/

theorem State.expire_of_armed {s : State} {e : Entry} (h : (s.entry e).state = .armed) :
    s.expire e = s.setEntry e { (s.entry e).advance with state := .fetching, phase := .requested } := by
  simp only [State.expire, SchedEntry.advance, h]

/-- 09:R143. In every state but FREE and ARMED the expiry is skipped. -/
theorem State.expire_of_skipping {s : State} {e : Entry} (hfree : (s.entry e).state ≠ .free)
    (harmed : (s.entry e).state ≠ .armed) :
    s.expire e = (s.setEntry e { (s.entry e).advance with
      skipped := min ((s.entry e).skipped + 1) skippedMax }).raise .overrun := by
  cases h : (s.entry e).state with
  | free => exact absurd h hfree
  | armed => exact absurd h harmed
  | fetching | ready | outstanding | clearing => simp only [State.expire, SchedEntry.advance, h]

/-- The skipped count goes up by 1 and is held at 255. -/
theorem min_succ_skippedMax (k : Nat) : min (k + 1) skippedMax = if k < 255 then k + 1 else 255 := by
  unfold skippedMax
  split <;> omega

/-! ### The statement -/

/-- Settles O27: the due expiry from ARMED and from the four states that skip it, and the three ways in which
no expiry is due. -/
theorem expiryRequestsOrSkips : Obligations.ExpiryRequestsOrSkips := by
  refine ⟨fun e s hr hrun hnow => ⟨fun harmed => ?armed, fun hskip => ?skipping⟩, fun e s hno => ?notDue⟩
  case armed =>
    have hdue : s.expiryDue e = true := (s.expiryDue_iff e).mpr ⟨hrun, by simp [harmed], hnow⟩
    rw [exec_scheduleExpiry_of_due hr hdue, State.expire_of_armed harmed]
    rfl
  case skipping =>
    have hfree : (s.entry e).state ≠ .free := by intro h; simp [h] at hskip
    have harmed : (s.entry e).state ≠ .armed := by intro h; simp [h] at hskip
    have hdue : s.expiryDue e = true := (s.expiryDue_iff e).mpr ⟨hrun, hfree, hnow⟩
    rw [exec_scheduleExpiry_of_due hr hdue, State.expire_of_skipping hfree harmed, min_succ_skippedMax]
    rfl
  case notDue =>
    refine exec_scheduleExpiry_of_not_due fun hdue => ?_
    obtain ⟨hrun, hfree, hnow⟩ := (s.expiryDue_iff e).mp hdue
    exact hno.elim (· hrun) (·.elim hfree (· hnow))

end Sys2Proof.Machine
end

section
/-! PROOFS. The life cycle of the controller: the checks of the setup block (10:R154) and the writes to CONTROL
(10:R152). -/
namespace Sys2Proof.Machine

open Sys2Proof

/-! ### The checks of the setup block -/

/-- What a list of checks of the setup block decides: the offset of its first failing check. -/
def firstOffset (checks : List (Nat × Bool)) : Option Nat := (checks.find? fun c => c.2).map fun c => c.1

theorem setupFailure_eq (d : Bytes) : setupFailure d = firstOffset (setupChecks d) := rfl

/-- One row of the table, its check written as any condition that says the same. -/
theorem firstOffset_cons {p : Bool} {c : Prop} [Decidable c] (h : p = true ↔ c) (off : Nat) (l : List (Nat × Bool)) :
    firstOffset ((off, p) :: l) = if c then some off else firstOffset l := by
  unfold firstOffset
  rw [find_check_cons]
  simp only [h]
  split <;> rfl

theorem exponentConfigured_iff (e : Nat) : exponentConfigured e = true ↔ 4 ≤ e ∧ e ≤ 12 := decide_eq_true_iff

theorem setupSqExponent_eq_zero (d : Bytes) (n : Ring) : setupSqExponent d n = 0 ↔ byteAt d (12 + n.val) = 0 := by
  simp [setupSqExponent, BitVec.toNat_eq]

/-- Check 3 for ring `n`: a size exponent that neither leaves the ring out nor configures it. -/
def ringSizeFails (d : Bytes) (n : Ring) : Bool :=
  setupSqExponent d n != 0 && !exponentConfigured (setupSqExponent d n)

/-- Check 4: no ring is configured. -/
def noRing (d : Bytes) : Bool := (List.finRange 4).all fun n => setupSqExponent d n == 0

/-- Check 5 for ring `n`: the base of a configured ring that is not a multiple of 64. -/
def ringBaseFails (d : Bytes) (n : Ring) : Bool :=
  exponentConfigured (setupSqExponent d n) && (setupSqBase d n).toNat % 64 != 0

theorem ringSizeFails_iff (d : Bytes) (n : Ring) :
    ringSizeFails d n = true ↔ byteAt d (12 + n.val) ≠ 0 ∧
      ¬ (4 ≤ (byteAt d (12 + n.val)).toNat ∧ (byteAt d (12 + n.val)).toNat ≤ 12) := by
  rw [ringSizeFails, Bool.and_eq_true, bne_iff_ne, ne_eq, setupSqExponent_eq_zero, Bool.not_eq_true',
    ← Bool.not_eq_true, exponentConfigured_iff]
  rfl

theorem noRing_iff (d : Bytes) :
    noRing d = true ↔ byteAt d 12 = 0 ∧ byteAt d 13 = 0 ∧ byteAt d 14 = 0 ∧ byteAt d 15 = 0 := by
  have hall : noRing d = true ↔ ∀ n : Ring, byteAt d (12 + n.val) = 0 := by
    simp [noRing, setupSqExponent_eq_zero]
  simp [hall, Fin.forall_fin_succ]

theorem ringBaseFails_iff (d : Bytes) (n : Ring) :
    ringBaseFails d n = true ↔
      (4 ≤ (byteAt d (12 + n.val)).toNat ∧ (byteAt d (12 + n.val)).toNat ≤ 12) ∧
        (dwordAt d (16 + 8 * n.val)).toNat % 64 ≠ 0 := by
  rw [ringBaseFails, Bool.and_eq_true, bne_iff_ne, exponentConfigured_iff]
  rfl

/-- The table row by row: checks 3 and 5 have a row for each ring. -/
theorem setupChecks_eq (d : Bytes) :
    setupChecks d =
      [(8, !exponentConfigured (setupCqExponent d)), (0, (setupCqBase d).toNat % 32 != 0),
        (12, ringSizeFails d 0), (13, ringSizeFails d 1), (14, ringSizeFails d 2), (15, ringSizeFails d 3),
        (12, noRing d),
        (16, ringBaseFails d 0), (24, ringBaseFails d 1), (32, ringBaseFails d 2), (40, ringBaseFails d 3),
        (48, (setupStatusAddr d).toNat % 16 != 0)] := rfl

/-! ### A block that fails -/

/-- 10:R159. In LOADING a report is the first fault. -/
theorem State.reportFault_of_loading {s : State} (h : s.cu.state = .loading) (code : FaultCode) (addr : BitVec 16) :
    s.reportFault code addr = s.enterFaulted code addr := by
  simp [State.reportFault, h]

/-- The state that takes the answer: the setup read is no longer in flight. -/
def State.clearSetupRead (s : State) : State := { s with hp := { s.hp with setupRead := none } }

theorem exec_setupReadAnswer {s : State} {p : Addr} (hr : s.resetAsserted = false) (hread : s.hp.setupRead = some p)
    (a : ReadAnswer) :
    exec (.setupReadAnswer a) s = .next (s.clearSetupRead.takeSetupAnswer a) := by
  change Host.Outcome.next (whenReleased _ s) = _
  rw [whenReleased_eq hr, hread]
  rfl

theorem State.takeSetupAnswer_of_invalid {s : State} {d : Bytes} {off : Nat} (hstate : s.cu.state = .loading)
    (hload : s.cu.loadAbandoned = false) (hoff : setupFailure d = some off) :
    s.takeSetupAnswer (.okay d) =
      s.enterFaulted .setupInvalid (s.cu.setupAddr.setWidth 16 + BitVec.ofNat 16 off) := by
  simp [State.takeSetupAnswer, hstate, hload, hoff, State.reportFault_of_loading hstate]

/-- Settles O48: the table of 10:R154 row by row, each check as the condition on the bytes it reads, and the report
of a failing block in LOADING. -/
theorem setupBlockChecksInOrder : Obligations.SetupBlockChecksInOrder := by
  refine ⟨?table, fun s p d off hr hstate hload hread hoff => ?fault⟩
  case table =>
    intro d sized c1 c2 c3 c4 c5 c6
    have h1 : (!exponentConfigured (setupCqExponent d)) = true ↔ c1 := by
      rw [Bool.not_eq_true', ← Bool.not_eq_true, exponentConfigured_iff]
      rfl
    have h2 : ((setupCqBase d).toNat % 32 != 0) = true ↔ c2 := bne_iff_ne
    have h3 (n : Ring) : ringSizeFails d n = true ↔ c3 n.val := ringSizeFails_iff d n
    have h4 : noRing d = true ↔ c4 := noRing_iff d
    have h5 (n : Ring) : ringBaseFails d n = true ↔ c5 n.val := ringBaseFails_iff d n
    have h6 : ((setupStatusAddr d).toNat % 16 != 0) = true ↔ c6 := bne_iff_ne
    simp only [setupFailure_eq, setupChecks_eq, firstOffset_cons h1, firstOffset_cons h2,
      fun n => firstOffset_cons (h3 n), firstOffset_cons h4, fun n => firstOffset_cons (h5 n), firstOffset_cons h6]
    rfl
  case fault =>
    rw [exec_setupReadAnswer hr hread, State.takeSetupAnswer_of_invalid (s := s.clearSetupRead) hstate hload hoff]
    rfl

/-! ### Entry to LOADING -/

/-- The state at entry to LOADING, before the setup address is looked at (10:R153). -/
def State.beginLoading (s : State) (r : ReturnState) : State :=
  { s with cu := { s.cu with state := .loading, enable := true, returnState := r, loadAbandoned := false } }

theorem State.enterLoading_of_aligned {s : State} (h : s.cu.setupAddr.toNat % 64 = 0) (r : ReturnState) :
    s.enterLoading r =
      { s.beginLoading r with hp := { s.hp with setupRead := some s.cu.setupAddr } } := if_pos h

theorem State.enterLoading_of_unaligned {s : State} (h : s.cu.setupAddr.toNat % 64 ≠ 0) (r : ReturnState) :
    s.enterLoading r = (s.beginLoading r).enterFaulted .setupInvalid (s.cu.setupAddr.setWidth 16) :=
  (if_neg h).trans (State.reportFault_of_loading rfl _ _)

/-! ### Entry to STOPPING -/

/-- 09:R149. The entries in FETCHING and READY go back to ARMED, and no other entry changes. -/
theorem SchedEntry.stop_eq :
    SchedEntry.stop = fun x =>
      if x.state = .fetching then { x with state := .armed, phase := .requested }
      else if x.state = .ready then { x with state := .armed, held := none } else x := by
  funext x
  unfold SchedEntry.stop
  cases h : x.state <;> rfl

/-- The state at entry to STOPPING, before the drain is looked at (10:R157, 09:R149). -/
def State.beginStopping (s : State) : State :=
  { s with cu := { s.cu with state := .stopping, enable := false }, sched := s.sched.map SchedEntry.stop }

theorem State.enterStopping_eq (s : State) : s.enterStopping = s.beginStopping.drainIfComplete := by
  simp only [State.enterStopping, State.beginStopping, mapAll_eq_map]

theorem State.enterStopping_of_drained {s : State} (h : s.beginStopping.drained = true) :
    s.enterStopping = s.beginStopping.enterStopped :=
  s.enterStopping_eq.trans (if_pos ⟨rfl, h⟩)

theorem State.enterStopping_of_not_drained {s : State} (h : s.beginStopping.drained = false) :
    s.enterStopping = s.beginStopping :=
  s.enterStopping_eq.trans (if_neg (by simp [h]))

theorem State.enterStopping_control (s : State) :
    s.enterStopping.cu.enable = false ∧
      (s.enterStopping.cu.state = .stopping ∨ s.enterStopping.cu.state = .stopped) := by
  cases h : s.beginStopping.drained with
  | true => rw [State.enterStopping_of_drained h]; exact ⟨rfl, .inr rfl⟩
  | false => rw [State.enterStopping_of_not_drained h]; exact ⟨rfl, .inl rfl⟩

/-! ### The table of 10:R152, one lemma for each controller state -/

theorem exec_enable {s : State} (hr : s.resetAsserted = false) (on : Bool) :
    exec (.enable on) s = .next (s.writeEnable on) :=
  congrArg Host.Outcome.next (whenReleased_eq hr)

section Table

variable {s : State}

/-- OFF and STOPPED are the states a load starts from and returns to. -/
theorem State.writeEnable_true_of_return {r : ReturnState} (h : s.cu.state = r.control) :
    s.writeEnable true = s.enterLoading r := by
  cases r <;> simp [State.writeEnable, h, ReturnState.control]

theorem State.writeEnable_false_of_not_enabled
    (h : s.cu.state = .off ∨ s.cu.state = .stopping ∨ s.cu.state = .stopped) : s.writeEnable false = s := by
  rcases h with h | h | h <;> simp [State.writeEnable, h]

theorem State.writeEnable_of_loading (h : s.cu.state = .loading) (on : Bool) :
    s.writeEnable on = { s with cu := { s.cu with enable := on, loadAbandoned := !on } } := by
  simp [State.writeEnable, h]

theorem State.writeEnable_of_running (h : s.cu.state = .running) (on : Bool) :
    s.writeEnable on = if on then s else s.enterStopping := by
  simp [State.writeEnable, h]

theorem State.writeEnable_true_of_refused (h : s.cu.state = .stopping ∨ s.cu.state = .faulted) :
    s.writeEnable true = s.raise .hostError := by
  rcases h with h | h <;> simp [State.writeEnable, h]

theorem State.writeEnable_false_of_faulted (h : s.cu.state = .faulted) :
    s.writeEnable false = s.setEnable false := by
  simp [State.writeEnable, h]

theorem State.writeEnable_of_resetting (h : s.cu.state = .resetting) (on : Bool) : s.writeEnable on = s := by
  simp [State.writeEnable, h]

end Table

/-! ### SOFT_RESET in CONTROL -/

/-- CONTROL reads ENABLE at bit 0 and 0 above it. -/
theorem State.readAccess_control (s : State) : s.readAccess 0x04 = (BitVec.ofBool s.cu.enable).setWidth 32 := rfl

/-- Settles O45: the table of 10:R152 by controller state and ENABLE value, the entry to STOPPING drained and not,
and the SOFT_RESET bit. -/
theorem controlWrites : Obligations.ControlWrites := by
  refine ⟨fun s hr => ?table, fun s hr hrun => ?stopping, fun s => ⟨rfl, ?softReset⟩⟩
  case table =>
    simp only [exec_enable hr]
    refine ⟨fun r h haligned => ?aligned, fun r h hunaligned => ?unaligned, fun h => ?notEnabled, fun h on => ?loading,
      fun h => ?running, fun h => ⟨s.enterStopping, ?stop, s.enterStopping_control⟩, fun h => ?refused,
      fun h => ?faulted, fun h on => ?resetting⟩
    case aligned => rw [State.writeEnable_true_of_return h, State.enterLoading_of_aligned haligned]; rfl
    case unaligned => rw [State.writeEnable_true_of_return h, State.enterLoading_of_unaligned hunaligned]; rfl
    case notEnabled => rw [State.writeEnable_false_of_not_enabled h]
    case loading => rw [State.writeEnable_of_loading h]
    case running => rw [State.writeEnable_of_running h, if_pos rfl]
    case stop => rw [State.writeEnable_of_running h, if_neg Bool.false_ne_true]
    case refused => rw [State.writeEnable_true_of_refused h]; rfl
    case faulted => rw [State.writeEnable_false_of_faulted h]; rfl
    case resetting => rw [State.writeEnable_of_resetting h]
  case stopping =>
    intro t
    have ht : s.beginStopping = t := by rw [State.beginStopping, SchedEntry.stop_eq]
    rw [exec_enable hr, State.writeEnable_of_running hrun, if_neg Bool.false_ne_true, ← ht]
    refine ⟨fun hwait => ?waits, fun hdone => ?drained⟩
    case waits => rw [State.enterStopping_of_not_drained hwait]
    case drained => rw [State.enterStopping_of_drained hdone]; rfl
  case softReset => rw [State.readAccess_control]; simp

end Sys2Proof.Machine
end

section
/-! PROOFS. The event flags and the notification line (11:R164 to 11:R167): the two registers, the level of EVT_N, and
the flags that every command but a clear and a reset keeps. -/
namespace Sys2Proof.Machine

open Sys2Proof

/-! ### The event registers -/

theorem eventBits_eq (v : BitVec 32) : eventBits v = v.extractLsb' 0 9 := by
  apply BitVec.eq_of_toNat_eq; simp [eventBits]

theorem exec_eventCause {s : State} (hr : s.resetAsserted = false) (v : BitVec 32) :
    exec (.eventCause v) s = .next (s.writeEventCause v) :=
  congrArg Host.Outcome.next (whenReleased_eq hr)

theorem exec_eventMask {s : State} (hr : s.resetAsserted = false) (v : BitVec 32) :
    exec (.eventMask v) s = .next (s.writeEventMask v) :=
  congrArg Host.Outcome.next (whenReleased_eq hr)

theorem State.writeEventCause_of_resetting {s : State} (h : s.cu.state = .resetting) (v : BitVec 32) :
    s.writeEventCause v = s := if_pos h

theorem State.writeEventMask_of_resetting {s : State} (h : s.cu.state = .resetting) (v : BitVec 32) :
    s.writeEventMask v = s := if_pos h

theorem State.writeEventCause_of_not_resetting {s : State} (h : s.cu.state ≠ .resetting) (v : BitVec 32) :
    s.writeEventCause v = { s with eu := { s.eu with cause := s.eu.cause &&& ~~~(v.extractLsb' 0 9) } } := by
  rw [← eventBits_eq]
  exact if_neg h

theorem State.writeEventMask_of_not_resetting {s : State} (h : s.cu.state ≠ .resetting) (v : BitVec 32) :
    s.writeEventMask v = { s with eu := { s.eu with mask := v.extractLsb' 0 9 } } := by
  rw [← eventBits_eq]
  exact if_neg h

theorem State.readAccess_eventCause (s : State) : s.readAccess 0x1C = s.eu.cause.setWidth 32 := rfl

theorem State.readAccess_eventMask (s : State) : s.readAccess 0x20 = s.eu.mask.setWidth 32 := rfl

/-! ### The notification line -/

theorem bitVec_ne_zero_iff_exists_getLsbD {w : Nat} (x : BitVec w) : x ≠ 0 ↔ ∃ i, i < w ∧ x.getLsbD i = true := by
  constructor
  · intro hx
    by_contra hno
    push Not at hno
    exact hx (BitVec.eq_of_getLsbD_eq fun i hi => by simpa using hno i hi)
  · rintro ⟨i, -, hi⟩ rfl
    simp at hi

/-- 11:R167. -/
theorem EventUnit.evtAsserted_iff (e : EventUnit) :
    e.evtAsserted = true ↔ ∃ i, i < 9 ∧ e.cause.getLsbD i = true ∧ e.mask.getLsbD i = true := by
  rw [EventUnit.evtAsserted, bne_iff_ne, bitVec_ne_zero_iff_exists_getLsbD]
  simp only [BitVec.getLsbD_and, Bool.and_eq_true]

/-- The pin is active low. -/
theorem State.evtN_eq_false_iff (s : State) :
    s.evtN = false ↔ ∃ i, i < 9 ∧ s.eu.cause.getLsbD i = true ∧ s.eu.mask.getLsbD i = true := by
  rw [← EventUnit.evtAsserted_iff, State.evtN, Bool.not_eq_false']

/-! ### Flags that stay set -/

/-- Every flag set in `e` is set in `f` (11 section 11.1). -/
structure EventUnit.KeptBy (e f : EventUnit) : Prop where
  flag : ∀ i, e.cause.getLsbD i = true → f.cause.getLsbD i = true

theorem EventUnit.KeptBy.refl (e : EventUnit) : e.KeptBy e := ⟨fun _ h => h⟩

theorem EventUnit.KeptBy.trans {e f g : EventUnit} (hef : e.KeptBy f) (hfg : f.KeptBy g) : e.KeptBy g :=
  ⟨fun i h => hfg.flag i (hef.flag i h)⟩

theorem EventUnit.KeptBy.of_eq {e f : EventUnit} (h : f = e) : e.KeptBy f := h ▸ .refl e

/-- 11:R164. Raising a cause sets one flag more, so what was kept before it is kept. -/
theorem EventUnit.KeptBy.raise {e : EventUnit} {s : State} (h : e.KeptBy s.eu) (c : Cause) :
    e.KeptBy (s.raise c).eu := by
  constructor
  intro i hi
  simp [State.raise, h.flag i hi]

theorem EventUnit.KeptBy.raiseIf {e : EventUnit} {s : State} (h : e.KeptBy s.eu) (p : Bool) (c : Cause) :
    e.KeptBy (s.raiseIf p c).eu := by
  cases p with
  | true => exact h.raise c
  | false => exact h

/-- A fold keeps the flags when each of its steps does. -/
theorem foldl_keepsFlags {α : Type} {f : State → α → State} (h : ∀ (s : State) a, s.eu.KeptBy (f s a).eu)
    (l : List α) (s : State) : s.eu.KeptBy (l.foldl f s).eu := by
  induction l generalizing s with
  | nil => exact .refl _
  | cons a l ih => exact (h s a).trans (ih (f s a))

/-- A guarded command keeps the flags when its effect does. -/
theorem keepsFlags_of_released {f : State → State} {s t : State}
    (hstep : (.next (whenReleased f s) : Host.Outcome State Fault Refusal) = .next t)
    (h : s.eu.KeptBy (f s).eu) : s.eu.KeptBy t.eu := by
  cases hstep
  unfold whenReleased
  split
  · exact .refl _
  · exact h

/-! ### The scan scheduler: OVERRUN -/

theorem State.expire_keepsFlags (s : State) (e : Entry) : s.eu.KeptBy (s.expire e).eu := by
  cases h : (s.entry e).state with
  | free => exact .of_eq (by simp [State.expire, SchedEntry.advance, h])
  | armed =>
    rw [State.expire_of_armed h]
    exact .refl _
  | fetching | ready | outstanding | clearing =>
    rw [State.expire_of_skipping (by simp [h]) (by simp [h])]
    exact .raise (.refl _) _

theorem State.dueAtEntry_keepsFlags (s : State) (e : Entry) : s.eu.KeptBy (s.dueAtEntry e).eu := by
  unfold State.dueAtEntry
  split
  · exact s.expire_keepsFlags e
  · exact .refl _

/-- With a first delay of 0 the claim takes an expiry of the entry it has just armed (09:R140). -/
theorem State.setScheduleClaim_keepsFlags (s : State) (d : Bytes) : s.eu.KeptBy (s.setScheduleClaim d).1.eu := by
  unfold State.setScheduleClaim
  dsimp only
  split
  · exact State.dueAtEntry_keepsFlags (s.setEntry (descEntry d) _) (descEntry d)
  · split <;> exact .refl _

/-! ### The supply monitor: SUPPLY_LOW -/

theorem State.supplySettleEnd_keepsFlags (s : State) : s.eu.KeptBy s.supplySettleEnd.eu := by
  have hgrants (t : State) : t.eu.KeptBy ((List.finRange 4).foldl State.grantAtSettleEnd t).eu :=
    .of_eq (foldl_keeps State.eu State.grantAtSettleEnd (by simp) _ t)
  unfold State.supplySettleEnd
  split
  · exact (hgrants { s with sm := s.sm.grantAll }).raiseIf _ _
  · exact .refl _

theorem State.lowTransitionEffects_keepsFlags (s : State) : s.eu.KeptBy s.lowTransitionEffects.eu :=
  .raise (.of_eq (by simp)) _

theorem State.pinAvdd_keepsFlags (s : State) (mv : Nat) : s.eu.KeptBy (s.pinAvdd mv).eu := by
  unfold State.pinAvdd State.moveAvdd
  split
  · exact .refl _
  · split
    · exact State.lowTransitionEffects_keepsFlags (s.setAvdd mv)
    · exact .refl _

/-! ### A tick of the conversion clock -/

theorem State.takeDue_keepsFlags (s : State) : s.eu.KeptBy s.takeDue.eu := by
  have hcells : s.eu.KeptBy ((List.finRange 4).foldl State.dueAtCell s).eu :=
    .of_eq (foldl_keeps State.eu State.dueAtCell (by simp) _ _)
  exact hcells.trans ((State.supplySettleEnd_keepsFlags _).trans (foldl_keepsFlags State.dueAtEntry_keepsFlags _ _))

theorem State.tick_keepsFlags (s : State) : s.eu.KeptBy s.tick.eu :=
  s.takeDue_keepsFlags.trans (.of_eq (by simp [State.tick]))

/-! ### The fetch unit: RING_ERROR, and HOST_ERROR at SUBMIT -/

theorem State.writeSubmit_keepsFlags (s : State) (v : BitVec 32) : s.eu.KeptBy (s.writeSubmit v).eu := by
  unfold State.writeSubmit
  split
  · exact .refl _
  · split
    · exact .refl _
    · exact .raise (.refl _) _

theorem State.takeRingAnswer_keepsFlags (s : State) (n : Ring) (a : ReadAnswer) :
    s.eu.KeptBy (s.takeRingAnswer n a).eu := by
  unfold State.takeRingAnswer
  split
  · cases a with
    | okay d => exact .of_eq (by simp)
    | busError => exact .raise (.refl _) _
  · exact .refl _

/-! ### The completion writer: CQ_STALL, COMPLETION and LIMIT, and HOST_ERROR at CQ_HEAD -/

theorem State.grantNext_keepsFlags (s : State) : s.eu.KeptBy s.grantNext.eu := by
  unfold State.grantNext
  split
  · cases s.nextRequest with
    | none => exact .refl _
    | some g =>
      by_cases hfits : g.record.slotCount ≤ s.cw.free
      · simp only [State.spaceCheck_fits { s with cw := { s.cw with granted := some g } } g.record hfits]
        exact .of_eq (by simp)
      · simp only [State.spaceCheck_stalls { s with cw := { s.cw with granted := some g } } g.record hfits]
        exact .raise (.refl _) _
  · exact .refl _

theorem State.posted_keepsFlags (s : State) (g : Granted) : s.eu.KeptBy (s.posted g).eu :=
  ⟨fun i hi => by simp [State.posted, hi]⟩

theorem State.afterHeader_keepsFlags (s : State) : s.eu.KeptBy s.afterHeader.eu := by
  unfold State.afterHeader
  split
  · cases s.cw.granted with
    | none => exact .refl _
    | some g =>
      dsimp only
      rw [State.postRecord_eq]
      exact (s.posted_keepsFlags g).trans (.of_eq (by simp))
  · exact .refl _

theorem State.writeCqHead_keepsFlags (s : State) (v : BitVec 32) : s.eu.KeptBy (s.writeCqHead v).eu := by
  by_cases hreset : s.cu.state = .resetting
  · rw [State.writeCqHead_of_resetting hreset]
    exact .refl _
  by_cases haccepted : s.takesCqHead ∧ s.cw.acceptsHead (cqHeadValue v) = true
  · obtain ⟨hstate, hfits⟩ := haccepted
    rw [State.writeCqHead_of_accepted hstate hfits]
    exact .of_eq (by simp [State.setCqHead])
  · rw [State.writeCqHead_of_refused hreset haccepted]
    exact .raise (.refl _) _

/-! ### The control unit: FAULT, STOPPED, and HOST_ERROR at CONTROL and the setup address -/

theorem State.enterFaulted_keepsFlags (s : State) (k : FaultCode) (a : BitVec 16) :
    s.eu.KeptBy (s.enterFaulted k a).eu :=
  .raise (.of_eq (by simp)) _

theorem State.reportFault_keepsFlags (s : State) (k : FaultCode) (a : BitVec 16) :
    s.eu.KeptBy (s.reportFault k a).eu := by
  unfold State.reportFault
  cases s.cu.state with
  | loading | running | stopping => exact s.enterFaulted_keepsFlags k a
  | off | stopped | faulted | resetting => exact .refl _

/-- A bus error answers a slot write or a status-area write, which has left the port (06:R113, 08:R136). -/
theorem State.writeFault_keepsFlags (s : State) (ws : List BusWrite) (k : FaultCode) (a : BitVec 16) :
    s.eu.KeptBy ((s.setWrites ws).reportFault k a).eu :=
  (s.setWrites ws).reportFault_keepsFlags k a

theorem State.drainIfComplete_keepsFlags (s : State) : s.eu.KeptBy s.drainIfComplete.eu := by
  unfold State.drainIfComplete
  split
  · exact .raise (.refl _) _
  · exact .refl _

theorem State.enterStopping_keepsFlags (s : State) : s.eu.KeptBy s.enterStopping.eu := by
  rw [State.enterStopping_eq]
  exact s.beginStopping.drainIfComplete_keepsFlags

theorem State.enterLoading_keepsFlags (s : State) (r : ReturnState) : s.eu.KeptBy (s.enterLoading r).eu := by
  unfold State.enterLoading
  dsimp only
  split
  · exact .refl _
  · exact State.reportFault_keepsFlags (s.beginLoading r) _ _

theorem State.writeEnable_keepsFlags (s : State) (on : Bool) : s.eu.KeptBy (s.writeEnable on).eu := by
  unfold State.writeEnable
  cases s.cu.state with
  | loading | resetting => exact .refl _
  | off | stopped =>
    cases on with
    | true => exact s.enterLoading_keepsFlags _
    | false => exact .refl _
  | running =>
    cases on with
    | true => exact .refl _
    | false => exact s.enterStopping_keepsFlags
  | stopping | faulted =>
    cases on with
    | true => exact .raise (.refl _) _
    | false => exact .refl _

theorem State.takeSetupAnswer_keepsFlags (s : State) (a : ReadAnswer) : s.eu.KeptBy (s.takeSetupAnswer a).eu := by
  unfold State.takeSetupAnswer
  split
  · split
    · exact .refl _
    · cases a with
      | busError => exact s.reportFault_keepsFlags _ _
      | okay d =>
        dsimp only
        split
        · exact s.reportFault_keepsFlags _ _
        · exact .refl _
  · exact .refl _

theorem State.writeSetupAddr_keepsFlags (s : State) (a : Addr) : s.eu.KeptBy (s.writeSetupAddr a).eu := by
  unfold State.writeSetupAddr
  cases s.cu.state with
  | off | stopped | resetting => exact .refl _
  | loading | running | stopping | faulted => exact .raise (.refl _) _

/-! ### The event mask, and the accesses the register port ignores -/

theorem State.writeEventMask_keepsFlags (s : State) (v : BitVec 32) : s.eu.KeptBy (s.writeEventMask v).eu := by
  unfold State.writeEventMask
  split
  · exact .refl _
  · exact ⟨fun _ hi => hi⟩

theorem State.writeWord_of_ignored {w : Nat} (h : writeIsIgnored w = true) (s : State) (v : BitVec 32) :
    s.writeWord w v = s := by
  unfold State.writeWord
  split
  case h_9 => rfl
  all_goals simp [writeIsIgnored] at h

/-- 12:R171. A well-formed access of this command has a lane disabled or reaches no word that is written. -/
theorem State.writeAccess_of_wellFormed {o : BitVec 6} {l : BitVec 4} {v : BitVec 32}
    (h : wellFormed (.registerWriteIgnored o l v) = true) (s : State) : s.writeAccess o l v = s := by
  unfold State.writeAccess
  split
  next hlanes =>
    have hl : l = 15 := eq_of_beq hlanes
    exact State.writeWord_of_ignored (by simpa [wellFormed, hl] using h) s v
  next => rfl

/-! ### Every command but a clear and a reset -/

/-- The commands whose effect leaves the event unit as it is, and those that can raise a cause, each by the lemma about
its effect. -/
theorem exec_keepsFlags {c : Instr} {s t : State} (hwf : wellFormed c = true) (hstep : exec c s = .next t)
    (hclear : ∀ v, c ≠ .eventCause v) (hsoft : ∀ on, c ≠ .softReset on) (hcomplete : c ≠ .softResetComplete)
    (hreset : c ≠ .resetNAsserted) : s.eu.KeptBy t.eu := by
  cases c with
  | eventCause v => exact absurd rfl (hclear v)
  | softReset on => exact absurd rfl (hsoft on)
  | softResetComplete => exact absurd rfl hcomplete
  | resetNAsserted => exact absurd rfl hreset
  | settleDelayExpiry | firstEdge | startTimeout | refTimeout | senseWindowClose | bankAbort =>
    exact keepsFlags_of_released hstep (.of_eq (by simp))
  | refDone | overflow | countedEdge | admission | measure | setBank | invalidateRef | reportRefs | setSupply
  | clearSchedule | fence | templateReadAnswer =>
    exact keepsFlags_of_released hstep (.of_eq (by split <;> simp))
  | ringReadIssue | templateReadIssue =>
    refine keepsFlags_of_released hstep (.of_eq ?_)
    repeat' split
    all_goals simp
  | scheduleExpiry e => exact keepsFlags_of_released hstep (s.dueAtEntry_keepsFlags e)
  | supplySettleEnd =>
    refine keepsFlags_of_released hstep ?_
    split
    · exact s.supplySettleEnd_keepsFlags
    · exact .of_eq (foldl_keeps State.eu State.deliverSome (by simp) _ _)
  | lowTransition mv | comparatorReadsHigh mv | comparatorReadsLow mv =>
    cases hstep
    exact s.pinAvdd_keepsFlags mv
  | conversionClockTick => exact keepsFlags_of_released hstep s.tick_keepsFlags
  | submit v => exact keepsFlags_of_released hstep (s.writeSubmit_keepsFlags v)
  | ringReadAnswer a =>
    refine keepsFlags_of_released hstep ?_
    split
    · exact State.takeRingAnswer_keepsFlags (s.setRead none) _ a
    · exact .refl _
  | setSchedule n =>
    refine keepsFlags_of_released hstep ?_
    split
    · exact .refl _
    next d _ => exact (s.setScheduleClaim_keepsFlags d).trans (.of_eq (by simp))
  | statusWriteAnswer a =>
    refine keepsFlags_of_released hstep ?_
    split
    · exact .refl _
    · cases a with
      | okay => exact .refl _
      | busError => exact s.writeFault_keepsFlags _ _ _
  | cqGrant => exact keepsFlags_of_released hstep s.grantNext_keepsFlags
  | followingSlotWriteAnswer k a =>
    refine keepsFlags_of_released hstep ?_
    split
    · exact .refl _
    · cases a with
      | okay => exact .of_eq (by simp)
      | busError => exact s.writeFault_keepsFlags _ _ _
  | headerWriteAnswer a =>
    refine keepsFlags_of_released hstep ?_
    split
    · exact .refl _
    next w ws _ =>
      cases a with
      | okay => exact State.afterHeader_keepsFlags (s.setWrites ws)
      | busError => exact s.writeFault_keepsFlags _ _ _
  | cqHead v => exact keepsFlags_of_released hstep (s.writeCqHead_keepsFlags v)
  | enable on => exact keepsFlags_of_released hstep (s.writeEnable_keepsFlags on)
  | setupAddrLo v | setupAddrHi v => exact keepsFlags_of_released hstep (s.writeSetupAddr_keepsFlags _)
  | setupReadAnswer a =>
    refine keepsFlags_of_released hstep ?_
    split
    · exact .refl _
    · exact State.takeSetupAnswer_keepsFlags { s with hp := { s.hp with setupRead := none } } a
  | drainComplete => exact keepsFlags_of_released hstep s.drainIfComplete_keepsFlags
  | resetNReleased =>
    cases hstep
    exact .refl _
  | eventMask v => exact keepsFlags_of_released hstep (s.writeEventMask_keepsFlags v)
  | registerWriteIgnored o l v =>
    exact keepsFlags_of_released hstep (.of_eq (congrArg State.eu (State.writeAccess_of_wellFormed hwf s)))

/-! ### The statement -/

/-- Settles O51: the two registers in RESETTING and outside it with what they read, the level of EVT_N, and the flags
that every other command keeps. -/
theorem eventFlagsAndLine : Obligations.EventFlagsAndLine := by
  refine ⟨fun v s hr => ⟨fun hstate => ⟨?clears, ?replaces⟩, fun hstate => ⟨?ignoresCause, ?ignoresMask⟩,
    s.readAccess_eventCause, s.readAccess_eventMask⟩, State.evtN_eq_false_iff, ?kept⟩
  case clears => rw [exec_eventCause hr, State.writeEventCause_of_not_resetting hstate]
  case replaces => rw [exec_eventMask hr, State.writeEventMask_of_not_resetting hstate]
  case ignoresCause => rw [exec_eventCause hr, State.writeEventCause_of_resetting hstate]
  case ignoresMask => rw [exec_eventMask hr, State.writeEventMask_of_resetting hstate]
  case kept =>
    intro c s t i hwf hstep hclear hsoft hcomplete hreset
    exact (exec_keepsFlags hwf hstep hclear hsoft hcomplete hreset).flag i

end Sys2Proof.Machine
end

section
/-! PROOFS. How an invariant of the state is carried over a step: the queue of commands, the guard of RESET_N and the
register port each add nothing of their own. -/
namespace Sys2Proof.Machine

open Sys2Proof

/-! ### A step runs one command -/

theorem step_of_cons {s : State} {c : Instr} {rest : List Instr} (h : s.pending = c :: rest) :
    step s = exec c { s with pending := rest } := by
  simp only [step, h]

theorem step_of_nil {s : State} (h : s.pending = []) : step s = .next s := by
  simp only [step, h]

/-- What every command keeps, and the queue of commands does not touch, every step keeps. -/
theorem step_keeps {P : State → Prop} (hqueue : ∀ s rest, P s → P { s with pending := rest })
    (hexec : ∀ c s t, P s → exec c s = .next t → P t) (s t : State) (hs : P s) (hstep : step s = .next t) : P t := by
  cases hp : s.pending with
  | nil =>
    rw [step_of_nil hp] at hstep
    cases hstep
    exact hs
  | cons c rest =>
    rw [step_of_cons hp] at hstep
    exact hexec c _ t (hqueue s rest hs) hstep

/-! ### The guard of RESET_N -/

/-- A guarded command either finds RESET_N asserted and changes nothing, or has its effect. -/
theorem released_cases {f : State → State} {s t : State}
    (hstep : (.next (whenReleased f s) : Host.Outcome State Fault Refusal) = .next t) :
    t = s ∨ s.resetAsserted = false ∧ t = f s := by
  cases hstep
  cases h : s.resetAsserted with
  | true => exact .inl (by simp [whenReleased, h])
  | false => exact .inr ⟨rfl, whenReleased_eq h⟩

/-- A guarded command keeps what its effect keeps. -/
theorem released_keeps {P : State → Prop} {f : State → State} {s t : State}
    (hstep : (.next (whenReleased f s) : Host.Outcome State Fault Refusal) = .next t) (hs : P s) (hf : P (f s)) :
    P t := by
  rcases released_cases hstep with rfl | ⟨-, rfl⟩
  · exact hs
  · exact hf

/-! ### The register port (12:R171) -/

/-- The command that a full-lane write to word `w` of the window is; none for a word that no write reaches. -/
def windowCommand (w : Nat) (v : BitVec 32) : Option Instr :=
  match w with
  | 1 => some (if v.getLsbD 1 then .softReset (v.getLsbD 0) else .enable (v.getLsbD 0))
  | 3 => some (.setupAddrLo v)
  | 4 => some (.setupAddrHi v)
  | 5 => some (.submit v)
  | 6 => some (.cqHead v)
  | 7 => some (.eventCause v)
  | 8 => some (.eventMask v)
  | 9 => some (.bankAbort v)
  | _ => none

theorem exec_access (o : BitVec 6) (l : BitVec 4) (v : BitVec 32) (s : State) :
    exec (.registerWriteIgnored o l v) s = .next (whenReleased (fun s => s.writeAccess o l v) s) := rfl

theorem whenReleased_id (s : State) : whenReleased (fun s => s) s = s := ite_self s

/-- An access with a byte lane disabled changes nothing. -/
theorem exec_access_of_lanes {l : BitVec 4} (h : allLanes l = false) (o : BitVec 6) (v : BitVec 32) (s : State) :
    exec (.registerWriteIgnored o l v) s = .next s := by
  simp only [exec_access, State.writeAccess, h, Bool.false_eq_true, if_false, whenReleased_id]

theorem exec_access_of_allLanes {l : BitVec 4} (h : allLanes l = true) (o : BitVec 6) (v : BitVec 32) (s : State) :
    exec (.registerWriteIgnored o l v) s = .next (whenReleased (fun s => s.writeWord (windowWord o) v) s) := by
  simp only [exec_access, State.writeAccess, h, if_true]

/-- A full-lane access to a word that a write reaches is that register's command (log 17). -/
theorem exec_access_of_command {l : BitVec 4} {o : BitVec 6} {v : BitVec 32} {c : Instr} (h : allLanes l = true)
    (hc : windowCommand (windowWord o) v = some c) (s : State) :
    exec (.registerWriteIgnored o l v) s = exec c s := by
  rw [exec_access_of_allLanes h]
  unfold windowCommand at hc
  split at hc <;> cases hc
  case h_1 hw =>
    rw [hw]
    simp only [State.writeWord, State.writeControl]
    cases v.getLsbD 1 <;> rfl
  all_goals rename_i hw; rw [hw]; rfl

/-- A full-lane access to any other word changes nothing. -/
theorem exec_access_of_no_command {l : BitVec 4} {o : BitVec 6} {v : BitVec 32} (h : allLanes l = true)
    (hc : windowCommand (windowWord o) v = none) (s : State) :
    exec (.registerWriteIgnored o l v) s = .next s := by
  rw [exec_access_of_allLanes h]
  unfold windowCommand at hc
  split at hc
  case h_9 h1 h3 h4 h5 h6 h7 h8 h9 =>
    have hword (s : State) : s.writeWord (windowWord o) v = s := by
      unfold State.writeWord
      split <;> first | rfl | contradiction
    simp only [hword, whenReleased_id]
  all_goals cases hc

theorem windowCommand_not_access {w : Nat} {v : BitVec 32} {c : Instr} (hc : windowCommand w v = some c)
    (o : BitVec 6) (l : BitVec 4) (u : BitVec 32) : c ≠ .registerWriteIgnored o l u := by
  rintro rfl
  unfold windowCommand at hc
  split at hc <;> try cases hc
  split at hc <;> cases hc

/-- What every command but an access at the register port keeps, every command keeps. -/
theorem exec_keeps {P : State → Prop}
    (h : ∀ c s t, (∀ o l v, c ≠ .registerWriteIgnored o l v) → P s → exec c s = .next t → P t)
    (c : Instr) (s t : State) (hs : P s) (hstep : exec c s = .next t) : P t := by
  by_cases hc : ∃ o l v, c = .registerWriteIgnored o l v
  · obtain ⟨o, l, v, rfl⟩ := hc
    cases hl : allLanes l with
    | false =>
      rw [exec_access_of_lanes hl] at hstep
      cases hstep
      exact hs
    | true =>
      cases hw : windowCommand (windowWord o) v with
      | none =>
        rw [exec_access_of_no_command hl hw] at hstep
        cases hstep
        exact hs
      | some c =>
        rw [exec_access_of_command hl hw] at hstep
        exact h c s t (windowCommand_not_access hw) hs hstep
  · exact h c s t (fun o l v e => hc ⟨o, l, v, e⟩) hs hstep

end Sys2Proof.Machine
end

section
/-! PROOFS. The completion ring stays sound (08:R123, 08:R124, 08:R127). -/
namespace Sys2Proof.Machine

open Sys2Proof

/-! ### The writer alone -/

/-- The part of the invariant that reads nothing but the completion writer. -/
structure CompletionWriter.Sound (w : CompletionWriter) : Prop where
  size : w.size ≤ 4096
  used : w.used ≤ w.size
  phase : w.phase = phaseOfIndex w.size w.tail
  grant : w.grant = .none ↔ w.granted = none
  room : w.grant = .writing ∨ w.grant = .header → ∀ g, w.granted = some g → g.record.slotCount ≤ w.free

/-- A grant is present only while the controller works, or in RESETTING. -/
def State.GrantTimely (s : State) : Prop := s.cw.grant ≠ .none → s.working = true ∨ s.cu.state = .resetting

theorem State.completionSound_iff (s : State) : s.CompletionSound ↔ s.cw.Sound ∧ s.GrantTimely := by
  constructor
  · rintro ⟨hsize, hused, hphase, hgrant, hroom, htime⟩
    exact ⟨⟨hsize, hused, hphase, hgrant, hroom⟩, htime⟩
  · rintro ⟨⟨hsize, hused, hphase, hgrant, hroom⟩, htime⟩
    exact ⟨hsize, hused, hphase, hgrant, hroom, htime⟩

theorem State.CompletionSound.writer {s : State} (h : s.CompletionSound) : s.cw.Sound := (s.completionSound_iff.mp h).1

theorem State.CompletionSound.timely {s : State} (h : s.CompletionSound) : s.GrantTimely :=
  (s.completionSound_iff.mp h).2

/-- The invariant reads the completion writer and the controller state. -/
theorem State.CompletionSound.of_eq {s t : State} (h : s.CompletionSound) (hcw : t.cw = s.cw)
    (hcu : t.cu.state = s.cu.state) : t.CompletionSound := by
  simpa only [State.CompletionSound, State.working, hcw, hcu] using h

/-- With no grant the controller may be in any state. -/
theorem State.CompletionSound.of_no_grant {t : State} (hw : t.cw.Sound) (hgrant : t.cw.grant = .none) :
    t.CompletionSound :=
  t.completionSound_iff.mpr ⟨hw, fun h => absurd hgrant h⟩

theorem State.CompletionSound.of_working {t : State} (hw : t.cw.Sound) (hwork : t.working = true) :
    t.CompletionSound :=
  t.completionSound_iff.mpr ⟨hw, fun _ => .inl hwork⟩

/-- Outside RUNNING, STOPPING and RESETTING no record is granted. -/
theorem State.CompletionSound.no_grant {s : State} (h : s.CompletionSound) (hwork : s.working = false)
    (hreset : s.cu.state ≠ .resetting) : s.cw.grant = .none := by
  by_contra hgrant
  rcases h.timely hgrant with hw | hr
  · simp [hwork] at hw
  · exact hreset hr

theorem CompletionWriter.Sound.reset : CompletionWriter.reset.Sound :=
  ⟨by decide, by decide, by decide, by decide, by decide⟩

theorem CompletionWriter.Sound.fault {w : CompletionWriter} (h : w.Sound) : w.fault.Sound :=
  ⟨h.size, h.used, h.phase, by simp [CompletionWriter.fault], by simp [CompletionWriter.fault]⟩

/-! ### A setup block that passes (10:R154) -/

theorem setupFailure_eq_none_iff (d : Bytes) : setupFailure d = none ↔ ∀ c ∈ setupChecks d, c.2 = false := by
  simp [setupFailure]

/-- A valid block configures the completion ring with 2^4 to 2^12 slots. -/
theorem setupCqExponent_of_valid {d : Bytes} (h : setupFailure d = none) :
    4 ≤ setupCqExponent d ∧ setupCqExponent d ≤ 12 := by
  have hrow := (setupFailure_eq_none_iff d).mp h (8, !exponentConfigured (setupCqExponent d)) (by simp [setupChecks_eq])
  exact (exponentConfigured_iff _).mp (by simpa using hrow)

/-- A valid block leaves a submission ring out or configures it with 2^4 to 2^12 slots. -/
theorem setupSqExponent_of_valid {d : Bytes} (h : setupFailure d = none) (n : Ring) :
    setupSqExponent d n = 0 ∨ 4 ≤ setupSqExponent d n ∧ setupSqExponent d n ≤ 12 := by
  have hmem : (12 + n.val, ringSizeFails d n) ∈ setupChecks d := by
    rw [setupChecks_eq]
    fin_cases n <;> simp
  have hrow : ringSizeFails d n = false := (setupFailure_eq_none_iff d).mp h _ hmem
  by_cases hzero : setupSqExponent d n = 0
  · exact .inl hzero
  · refine .inr ((exponentConfigured_iff _).mp ?_)
    simpa [ringSizeFails, hzero] using hrow

theorem two_pow_le_4096 {e : Nat} (h : e ≤ 12) : 2 ^ e ≤ 4096 := Nat.pow_le_pow_right (by decide) h

/-- 08:R123. The ring configured from a valid block is empty and in its first pass. -/
theorem CompletionWriter.Sound.configure {w : CompletionWriter} {d : Bytes} (h : w.Sound) (hnone : w.grant = .none)
    (hd : setupFailure d = none) : (w.configure d).Sound where
  size := two_pow_le_4096 (setupCqExponent_of_valid hd).2
  used := by simp [CompletionWriter.configure, CompletionWriter.used]
  phase := by simp [CompletionWriter.configure, phaseOfIndex]
  grant := h.grant
  room := fun hwriting => by simp [CompletionWriter.configure, hnone] at hwriting

/-! ### The grant, the writes and the posting -/

/-- A record whose space has been checked is written (08:R127). -/
theorem CompletionWriter.Sound.write {w : CompletionWriter} {g : Granted} {q : Grant} (h : w.Sound)
    (hgranted : w.granted = some g) (hq : q ≠ .none) (hfits : g.record.slotCount ≤ w.free) :
    ({ w with grant := q } : CompletionWriter).Sound where
  size := h.size
  used := h.used
  phase := h.phase
  grant := by simp [hq, hgranted]
  room := by
    intro _ g' hg'
    cases hgranted.symm.trans hg'
    exact hfits

theorem State.issueHeader_cw (s : State) (r : Record) : (s.issueHeader r).cw = { s.cw with grant := .header } := rfl

theorem State.issueRecord_cw (s : State) (r : Record) :
    ∃ q, q ≠ .none ∧ (s.issueRecord r).cw = { s.cw with grant := q } := by
  by_cases h : r.slotCount ≤ 1
  · exact ⟨.header, by decide, by rw [State.issueRecord, if_pos h, State.issueHeader_cw]⟩
  · exact ⟨.writing, by decide, by rw [State.issueRecord, if_neg h]⟩

theorem State.issueRecord_keeps_completion {s : State} {g : Granted} (hw : s.cw.Sound)
    (hgranted : s.cw.granted = some g) (hfits : g.record.slotCount ≤ s.cw.free) :
    (s.issueRecord g.record).cw.Sound := by
  obtain ⟨q, hq, hcw⟩ := s.issueRecord_cw g.record
  rw [hcw]
  exact hw.write hgranted hq hfits

/-- 08:R126 to 08:R128. A grant writes the record it takes, or stalls it. -/
theorem State.grantNext_cases (s : State) :
    s.grantNext = s ∨ s.working = true ∧ s.cw.grant = .none ∧ ∃ g, s.nextRequest = some g ∧
      (g.record.slotCount ≤ s.cw.free ∧
        s.grantNext = { s with cw := { s.cw with granted := some g } }.issueRecord g.record ∨
       s.cw.free < g.record.slotCount ∧
        s.grantNext = { s with cw := { s.cw with granted := some g, grant := .stalled } }.raise .cqStall) := by
  unfold State.grantNext
  split
  next hguard =>
    simp only [Bool.and_eq_true, beq_iff_eq] at hguard
    obtain ⟨hwork, hnone⟩ := hguard
    cases hnext : s.nextRequest with
    | none => exact .inl rfl
    | some g =>
      refine .inr ⟨hwork, hnone, g, rfl, ?_⟩
      by_cases hfits : g.record.slotCount ≤ s.cw.free
      · exact .inl ⟨hfits, by
          simp only [State.spaceCheck_fits { s with cw := { s.cw with granted := some g } } g.record hfits]⟩
      · exact .inr ⟨Nat.lt_of_not_le hfits,
          by simp only [State.spaceCheck_stalls { s with cw := { s.cw with granted := some g } } g.record hfits]⟩
  next => exact .inl rfl

theorem State.grantNext_keeps_completion {s : State} (h : s.CompletionSound) : s.grantNext.CompletionSound := by
  rcases s.grantNext_cases with heq | ⟨hwork, hnone, g, -, ⟨hfits, heq⟩ | ⟨-, heq⟩⟩ <;> rw [heq]
  · exact h
  · obtain ⟨q, hq, hcw⟩ := State.issueRecord_cw { s with cw := { s.cw with granted := some g } } g.record
    refine .of_working ?_ (by simpa [State.working] using hwork)
    rw [hcw]
    exact ⟨h.writer.size, h.writer.used, h.writer.phase, by simp [hq], fun _ g' hg' => by cases hg'; exact hfits⟩
  · exact .of_working ⟨h.writer.size, h.writer.used, h.writer.phase, by simp, by simp⟩ hwork

/-- 08:R124, 08:R130. The tail moves past a record that had its room, and the phase with it. -/
theorem CompletionWriter.Sound.post {w : CompletionWriter} {g : Granted} (h : w.Sound)
    (hgranted : w.granted = some g) (hheader : w.grant = .header) : (w.post g).Sound where
  size := h.size
  used := by
    have hroom := h.room (.inr hheader) g hgranted
    have hsize := h.size
    have hused := h.used
    simp only [CompletionWriter.post, CompletionWriter.used, CompletionWriter.free] at *
    bv_omega
  phase := rfl
  grant := by simp [CompletionWriter.post]
  room := by simp [CompletionWriter.post]

theorem State.postRecord_cw (s : State) (g : Granted) : (s.postRecord g).cw = s.cw.post g := by
  simp [State.postRecord_eq, State.posted]

theorem State.postRecord_cu (s : State) (g : Granted) : (s.postRecord g).cu = s.cu := by
  simp [State.postRecord_eq, State.posted]

theorem State.afterHeader_keeps_completion {s : State} (h : s.CompletionSound) : s.afterHeader.CompletionSound := by
  unfold State.afterHeader
  split
  next hguard =>
    simp only [Bool.and_eq_true, beq_iff_eq] at hguard
    cases hg : s.cw.granted with
    | none => exact h
    | some g =>
      refine .of_no_grant ?_ ?_
      · rw [State.postRecord_cw]
        exact h.writer.post hg hguard.2
      · rw [State.postRecord_cw]
        rfl
  next => exact h

theorem State.afterFollowing_keeps_completion {s : State} (h : s.CompletionSound) :
    s.afterFollowing.CompletionSound := by
  unfold State.afterFollowing
  split
  next hguard =>
    simp only [Bool.and_eq_true, beq_iff_eq] at hguard
    cases hg : s.cw.granted with
    | none => exact h
    | some g =>
      exact .of_working (h.writer.write hg (by decide) (h.writer.room (.inl hguard.1.2) g hg)) hguard.1.1
  next => exact h

/-! ### CQ_HEAD (08:R134) -/

/-- An accepted head lies between the head and the tail, so it only frees slots. -/
theorem CompletionWriter.used_of_accepted {w : CompletionWriter} {h : Index} (ha : w.acceptsHead h = true) :
    ({ w with head := h } : CompletionWriter).used ≤ w.used := by
  rw [CompletionWriter.acceptsHead_iff] at ha
  simp only [CompletionWriter.used]
  bv_omega

theorem CompletionWriter.Sound.setHead {w : CompletionWriter} {h : Index} (hw : w.Sound)
    (ha : w.acceptsHead h = true) : ({ w with head := h } : CompletionWriter).Sound where
  size := hw.size
  used := (used_of_accepted ha).trans hw.used
  phase := hw.phase
  grant := hw.grant
  room := fun hwriting g hg => (hw.room hwriting g hg).trans (Nat.sub_le_sub_left (used_of_accepted ha) _)

theorem State.retestStall_keeps_completion {s : State} (h : s.CompletionSound) : s.retestStall.CompletionSound := by
  by_cases hstalled : s.cw.grant = .stalled
  · cases hg : s.cw.granted with
    | none => exact absurd (h.writer.grant.mpr hg) (by simp [hstalled])
    | some g =>
      by_cases hspace : g.record.slotCount ≤ s.cw.free
      · rw [State.retestStall_of_space hstalled hg hspace]
        refine (State.completionSound_iff _).mpr ⟨s.issueRecord_keeps_completion h.writer hg hspace, fun _ => ?_⟩
        simpa [State.working] using h.timely (by simp [hstalled])
      · rw [State.retestStall_of_no_space hstalled hg (Nat.lt_of_not_le hspace)]
        exact h
  · rw [State.retestStall_of_not_stalled hstalled]
    exact h

theorem State.writeCqHead_keeps_completion {s : State} (h : s.CompletionSound) (v : BitVec 32) :
    (s.writeCqHead v).CompletionSound := by
  by_cases hreset : s.cu.state = .resetting
  · rw [State.writeCqHead_of_resetting hreset]
    exact h
  by_cases haccepted : s.takesCqHead ∧ s.cw.acceptsHead (cqHeadValue v) = true
  · rw [State.writeCqHead_of_accepted haccepted.1 haccepted.2]
    have hset : (s.setCqHead (cqHeadValue v)).CompletionSound :=
      (State.completionSound_iff _).mpr ⟨h.writer.setHead haccepted.2, h.timely⟩
    exact State.retestStall_keeps_completion hset
  · rw [State.writeCqHead_of_refused hreset haccepted]
    exact h.of_eq rfl rfl

/-! ### The life cycle -/

/-- The four conditions of 10:R158 one by one. -/
theorem State.drained_iff (s : State) :
    s.drained = true ↔ s.hp.read = none ∧ s.fu.posting = [] ∧ (∀ n, (s.ring n).state.atRest = true) ∧
      (∀ b, (s.bank b).queue = [] ∧ (s.bank b).seq = .idle) ∧ s.cw.grant = .none ∧ s.nextRequest = none ∧
      s.hp.setupRead = none ∧ s.hp.writes = [] := by
  simp [State.drained, State.anyRequest, State.ring, State.bank, and_assoc]

theorem State.enterFaulted_cw (s : State) (k : FaultCode) (a : BitVec 16) : (s.enterFaulted k a).cw = s.cw.fault := rfl

theorem State.reportFault_keeps_completion {s : State} (h : s.CompletionSound) (k : FaultCode) (a : BitVec 16) :
    (s.reportFault k a).CompletionSound := by
  unfold State.reportFault
  split
  · exact .of_no_grant h.writer.fault rfl
  · exact .of_no_grant h.writer.fault rfl
  · exact .of_no_grant h.writer.fault rfl
  · exact h.of_eq rfl rfl
  all_goals exact h

/-- 10:R158. A drained controller holds no grant. -/
theorem State.drainIfComplete_keeps_completion {s : State} (h : s.CompletionSound) :
    s.drainIfComplete.CompletionSound := by
  unfold State.drainIfComplete
  split
  next hdrain =>
    obtain ⟨-, -, -, -, hgrant, -⟩ := s.drained_iff.mp hdrain.2
    exact .of_no_grant h.writer hgrant
  next => exact h

theorem State.enterStopping_keeps_completion {s : State} (h : s.CompletionSound) :
    s.enterStopping.CompletionSound := by
  rw [State.enterStopping_eq]
  exact State.drainIfComplete_keeps_completion (s := s.beginStopping) (.of_working h.writer rfl)

/-- A load starts in OFF or STOPPED, where no record is granted (10:R152). -/
theorem State.enterLoading_keeps_completion {s : State} (h : s.CompletionSound) (hgrant : s.cw.grant = .none)
    (r : ReturnState) : (s.enterLoading r).CompletionSound := by
  unfold State.enterLoading
  dsimp only
  split
  · exact .of_no_grant h.writer hgrant
  · exact State.reportFault_keeps_completion (s := s.beginLoading r) (.of_no_grant h.writer hgrant) _ _

theorem State.writeEnable_keeps_completion {s : State} (h : s.CompletionSound) (on : Bool) :
    (s.writeEnable on).CompletionSound := by
  unfold State.writeEnable
  cases hstate : s.cu.state with
  | off | stopped =>
    have hgrant := h.no_grant (by simp [State.working, hstate]) (by simp [hstate])
    cases on with
    | true => exact State.enterLoading_keeps_completion h hgrant _
    | false => exact h
  | loading => exact h.of_eq rfl rfl
  | running =>
    cases on with
    | true => exact h
    | false => exact State.enterStopping_keeps_completion h
  | stopping | faulted => cases on <;> exact h.of_eq rfl rfl
  | resetting => exact h

theorem State.takeSetupAnswer_keeps_completion {s : State} (h : s.CompletionSound) (a : ReadAnswer) :
    (s.takeSetupAnswer a).CompletionSound := by
  unfold State.takeSetupAnswer
  split
  next hloading =>
    have hgrant := h.no_grant (by simp [State.working, hloading]) (by simp [hloading])
    split
    · exact .of_no_grant h.writer hgrant
    · cases a with
      | busError => exact State.reportFault_keeps_completion h _ _
      | okay d =>
        cases hd : setupFailure d with
        | some off => simp only [hd]; exact State.reportFault_keeps_completion h _ _
        | none =>
          simp only [hd]
          exact .of_no_grant (h.writer.configure hgrant hd) hgrant
  next => exact h

theorem State.resetBlocks_completion (s : State) : s.resetBlocks.CompletionSound := .of_no_grant .reset rfl

theorem State.resetIfQuiet_keeps_completion {s : State} (h : s.CompletionSound) : s.resetIfQuiet.CompletionSound := by
  unfold State.resetIfQuiet
  split
  · exact s.resetBlocks_completion
  · exact h

theorem State.writeSoftReset_keeps_completion {s : State} (h : s.CompletionSound) (on : Bool) :
    (s.writeSoftReset on).CompletionSound := by
  unfold State.writeSoftReset
  split
  · exact h
  · exact State.resetIfQuiet_keeps_completion ((State.completionSound_iff _).mpr ⟨h.writer, fun _ => .inr rfl⟩)

/-! ### Every command -/

/-- A write answered leaves the writer as it is, and a bus error of it is a fault report. -/
theorem State.setWrites_keeps_completion {s : State} (h : s.CompletionSound) (ws : List BusWrite) :
    (s.setWrites ws).CompletionSound := h.of_eq rfl rfl

theorem exec_keeps_completion (c : Instr) (s t : State) (hc : ∀ o l v, c ≠ .registerWriteIgnored o l v)
    (h : s.CompletionSound) (hstep : exec c s = .next t) : t.CompletionSound := by
  cases c with
  | registerWriteIgnored o l v => exact absurd rfl (hc o l v)
  | settleDelayExpiry | firstEdge | startTimeout | refTimeout | senseWindowClose | submit | bankAbort | eventCause
  | eventMask | conversionClockTick =>
    exact released_keeps hstep h (h.of_eq (by simp) (by simp))
  | refDone | overflow | countedEdge | admission | measure | setBank | invalidateRef | reportRefs | setSupply
  | setSchedule | clearSchedule | fence | ringReadAnswer | templateReadAnswer | scheduleExpiry =>
    refine released_keeps hstep h (h.of_eq ?_ ?_) <;> split <;> simp
  | ringReadIssue | templateReadIssue =>
    refine released_keeps hstep h (h.of_eq ?_ ?_) <;> repeat' split
    all_goals simp
  | supplySettleEnd =>
    refine released_keeps hstep h (h.of_eq ?_ ?_) <;> split
    · simp
    · exact foldl_keeps State.cw State.deliverSome (by simp) _ _
    · simp
    · exact foldl_keeps (·.cu.state) State.deliverSome (by simp) _ _
  | lowTransition | comparatorReadsHigh | comparatorReadsLow =>
    cases hstep
    exact h.of_eq (by simp) (by simp)
  | statusWriteAnswer a =>
    refine released_keeps hstep h ?_
    split
    · exact h
    · cases a with
      | okay => exact State.setWrites_keeps_completion h _
      | busError => exact State.reportFault_keeps_completion (State.setWrites_keeps_completion h _) _ _
  | cqGrant => exact released_keeps hstep h (State.grantNext_keeps_completion h)
  | followingSlotWriteAnswer k a =>
    refine released_keeps hstep h ?_
    split
    · exact h
    · cases a with
      | okay => exact State.afterFollowing_keeps_completion (State.setWrites_keeps_completion h _)
      | busError => exact State.reportFault_keeps_completion (State.setWrites_keeps_completion h _) _ _
  | headerWriteAnswer a =>
    refine released_keeps hstep h ?_
    split
    · exact h
    · cases a with
      | okay => exact State.afterHeader_keeps_completion (State.setWrites_keeps_completion h _)
      | busError => exact State.reportFault_keeps_completion (State.setWrites_keeps_completion h _) _ _
  | cqHead v => exact released_keeps hstep h (State.writeCqHead_keeps_completion h v)
  | enable on => exact released_keeps hstep h (State.writeEnable_keeps_completion h on)
  | softReset on => exact released_keeps hstep h (State.writeSoftReset_keeps_completion h on)
  | setupAddrLo v | setupAddrHi v =>
    refine released_keeps hstep h (h.of_eq (by simp) ?_)
    simp only [State.writeSetupAddrLo, State.writeSetupAddrHi, State.writeSetupAddr]
    split <;> rfl
  | setupReadAnswer a =>
    refine released_keeps hstep h ?_
    split
    · exact h
    · exact State.takeSetupAnswer_keeps_completion (s := s.clearSetupRead) (h.of_eq rfl rfl) a
  | drainComplete => exact released_keeps hstep h (State.drainIfComplete_keeps_completion h)
  | softResetComplete => exact released_keeps hstep h (State.resetIfQuiet_keeps_completion h)
  | resetNAsserted =>
    cases hstep
    exact s.resetBlocks_completion.of_eq rfl rfl
  | resetNReleased =>
    cases hstep
    exact h.of_eq rfl rfl

/-- Settles O59: every command keeps the completion ring sound, an access at the register port as the command it is,
and the queue of commands is no part of the ring. -/
theorem stepKeepsCompletionSound : Obligations.StepKeepsCompletionSound :=
  step_keeps (fun _ _ h => h) (exec_keeps fun c s t hc => exec_keeps_completion c s t hc)

end Sys2Proof.Machine
end

section
/-! PROOFS. What each act of a bank sequencer writes, as one update of the state: the ends of a MEASURE (03:R58,
03:R63), the lease (03:R54), the outcomes (03 section 3.5) and the abort (chapter 4). -/
namespace Sys2Proof.Machine

open Sys2Proof

/-! ### Contexts and records -/

theorem State.mapContext_eq (s : State) (b : Bank) (f : Context → Context) :
    s.mapContext b f = s.setBank b { s.bank b with context := (s.bank b).context.map f } := rfl

theorem State.setSeq_eq (s : State) (b : Bank) (q : SeqState) :
    s.setSeq b q = s.setBank b { s.bank b with seq := q } := rfl

theorem State.enterPosting_eq (s : State) (b : Bank) (r : Record) :
    s.enterPosting b r = s.setBank b { s.bank b with
      seq := .posting, context := (s.bank b).context.map fun x => { x with record := some r } } := by
  simp [State.enterPosting, State.mapContext_eq, State.setSeq_eq]

/-- The record of a MEASURE that bank `b`'s context `x` forms in state `s`, its skipped count taken. -/
def State.measureRecordOf (s : State) (b : Bank) (x : Context) (status : RecordStatus) (reason : FailureReason)
    (channels : List ChannelEntry) : Record :=
  measureRecord (s.headDesc b) (s.headSource b) x s.now status reason (s.skippedOf (s.headSource b)) channels

theorem State.formMeasure_eq {s : State} {b : Bank} {x : Context} (hx : (s.bank b).context = some x)
    (st : RecordStatus) (rs : FailureReason) (ch : List ChannelEntry) :
    s.formMeasure b st rs ch = (s.claimSkipped (s.headSource b)).setBank b { s.bank b with
      seq := .posting, context := some { x with record := some (s.measureRecordOf b x st rs ch) } } := by
  simp only [State.formMeasure, hx, State.enterPosting_eq, State.claimSkipped_frame, Option.map_some]
  rfl

theorem State.formMeasure_of_no_context {s : State} {b : Bank} (hx : (s.bank b).context = none)
    (st : RecordStatus) (rs : FailureReason) (ch : List ChannelEntry) : s.formMeasure b st rs ch = s := by
  simp only [State.formMeasure, hx]

theorem State.dropHold_eq (s : State) (b : Bank) :
    s.dropHold b = (s.releaseHold b).setBank b { s.bank b with
      context := (s.bank b).context.map fun x => { x with hold := .none } } := by
  simp [State.dropHold, State.mapContext_eq]

theorem State.dropLease_eq (s : State) (b : Bank) :
    s.dropLease b = (s.setRef b (descRef (s.headDesc b))
        ((s.ref b (descRef (s.headDesc b))).release (s.bank b).lifetime s.now)).setBank b { s.bank b with
      context := (s.bank b).context.map fun x => { x with
        leaseHeld := false,
        flags := { x.flags with
          refRevoked := x.flags.refRevoked || (s.ref b (descRef (s.headDesc b))).state == .revoked } } } := by
  simp [State.dropLease, State.mapContext_eq]

/-! ### The ends of a MEASURE -/

section Ends

variable {s : State} {b : Bank} {x : Context}

/-- Bank `b` in POSTING with the record that context `x` forms, its hold released and its skipped count taken. -/
def State.posting (s : State) (b : Bank) (x : Context) (status : RecordStatus) (reason : FailureReason)
    (channels : List ChannelEntry) : BankSeq :=
  { s.bank b with
    seq := .posting
    context := some { x with
      hold := .none, record := some (s.measureRecordOf b { x with hold := .none } status reason channels) } }

/-- A context whose lease has been released, with the table's answer whether the entry was REVOKED (03:R63). -/
def Context.dropLease (x : Context) (revoked : Bool) : Context :=
  { x with leaseHeld := false, flags := { x.flags with refRevoked := x.flags.refRevoked || revoked } }

/-- The hold is released and the record formed, in the state that the ends and the aborts share. -/
theorem State.dropHold_formMeasure (hx : (s.bank b).context = some x) (st : RecordStatus) (rs : FailureReason)
    (ch : List ChannelEntry) :
    (s.dropHold b).formMeasure b st rs ch =
      ((s.releaseHold b).claimSkipped (s.headSource b)).setBank b (s.posting b x st rs ch) := by
  have hdrop : (s.dropHold b).bank b = { s.bank b with context := some { x with hold := .none } } := by
    simp [State.dropHold_eq, hx]
  rw [State.formMeasure_eq (by rw [hdrop]), hdrop]
  simp [State.posting, State.measureRecordOf, State.dropHold_eq, State.claimSkipped_setBank, State.now]

theorem State.endFailed_eq (hx : (s.bank b).context = some x) (rs : FailureReason) :
    s.endFailed b rs =
      (((s.releaseHold b).claimSkipped (s.headSource b)).setRef b (descRef (s.headDesc b))
        (s.ref b (descRef (s.headDesc b))).conversionFailure).setBank b
          (s.posting b x .refFailed rs (notRunFrom (s.headDesc b) 0)) := by
  have hfail : ((s.failConversion b).bank b).context = some x := by simp [hx]
  rw [State.endFailed, State.dropHold_formMeasure hfail]
  simp [State.posting, State.measureRecordOf, State.failConversion, State.releaseHold_setRef,
    State.claimSkipped_setRef]

theorem State.dropLease_headDesc (s : State) (b i : Bank) : (s.dropLease b).headDesc i = s.headDesc i := by
  simp [State.dropLease]

theorem State.dropLease_headSource (s : State) (b i : Bank) : (s.dropLease b).headSource i = s.headSource i := by
  simp [State.dropLease]

theorem State.abortEntry_headDesc (s : State) (b i : Bank) : (s.abortEntry b).headDesc i = s.headDesc i := by
  simp [State.abortEntry]

theorem State.abortEntry_headSource (s : State) (b i : Bank) : (s.abortEntry b).headSource i = s.headSource i := by
  simp [State.abortEntry]

theorem State.stopCell_headDesc (s : State) (b i : Bank) : (s.stopCell b).headDesc i = s.headDesc i :=
  State.headDesc_of_banks (by simp) i

theorem State.stopCell_headSource (s : State) (b i : Bank) : (s.stopCell b).headSource i = s.headSource i :=
  State.headSource_of_banks (by simp) i

theorem State.dropLease_dropHold_formMeasure (hx : (s.bank b).context = some x) (st : RecordStatus)
    (rs : FailureReason) (ch : List ChannelEntry) :
    ((s.dropLease b).dropHold b).formMeasure b st rs ch =
      (((s.releaseHold b).claimSkipped (s.headSource b)).setRef b (descRef (s.headDesc b))
        ((s.ref b (descRef (s.headDesc b))).release (s.bank b).lifetime s.now)).setBank b
          (s.posting b (x.dropLease ((s.ref b (descRef (s.headDesc b))).state == .revoked)) st rs ch) := by
  have hdrop : ((s.dropLease b).bank b).context =
      some (x.dropLease ((s.ref b (descRef (s.headDesc b))).state == .revoked)) := by
    simp [State.dropLease_eq, hx, Context.dropLease]
  rw [State.dropHold_formMeasure hdrop]
  simp only [State.posting, State.measureRecordOf, State.dropLease_headDesc, State.dropLease_headSource]
  simp [State.now, State.dropLease_eq, State.releaseHold_setRef, State.releaseHold_setBank,
    State.claimSkipped_setBank, State.claimSkipped_setRef]

theorem State.endMeasure_eq (hx : (s.bank b).context = some x) :
    s.endMeasure b =
      (((s.releaseHold b).claimSkipped (s.headSource b)).setRef b (descRef (s.headDesc b))
        ((s.ref b (descRef (s.headDesc b))).release (s.bank b).lifetime s.now)).setBank b
          (s.posting b (x.dropLease ((s.ref b (descRef (s.headDesc b))).state == .revoked)) (resultStatus x.results)
            .none x.results) := by
  have hresults : s.results b = x.results := by simp only [State.results, hx]
  rw [State.endMeasure, State.dropLease_dropHold_formMeasure hx, hresults]

/-! ### The aborts (04 section 4.2) -/

theorem State.abortStarting_eq (hx : (s.bank b).context = some x) :
    s.abortStarting b = ((s.releaseHold b).claimSkipped (s.headSource b)).setBank b
      (s.posting b x .aborted .none (notRunFrom (s.headDesc b) 0)) :=
  State.dropHold_formMeasure hx _ _ _

theorem State.abortReference_eq (hx : (s.bank b).context = some x) :
    s.abortReference b =
      ((((s.releaseHold b).claimSkipped (s.headSource b)).setCell b (s.cell b).stop).setRef b
        (descRef (s.headDesc b)) (s.ref b (descRef (s.headDesc b))).conversionFailure).setBank b
          (s.posting b x .aborted .none (notRunFrom (s.headDesc b) 0)) := by
  have hfail : (((s.stopCell b).failConversion b).bank b).context = some x := by simp [hx]
  rw [State.abortReference, State.dropHold_formMeasure hfail]
  simp [State.posting, State.measureRecordOf, State.failConversion, State.stopCell, State.releaseHold_setRef,
    State.releaseHold_setCell, State.claimSkipped_setRef, State.claimSkipped_setCell]

theorem State.abortMeasuring_eq (hx : (s.bank b).context = some x) :
    s.abortMeasuring b =
      ((((s.releaseHold b).claimSkipped (s.headSource b)).setCell b (s.cell b).stop).setRef b
        (descRef (s.headDesc b)) ((s.ref b (descRef (s.headDesc b))).release (s.bank b).lifetime s.now)).setBank b
          (s.posting b ((x.completeEntry (s.headDesc b) .aborted).dropLease
            ((s.ref b (descRef (s.headDesc b))).state == .revoked)) .aborted .none
            ((x.completeEntry (s.headDesc b) .aborted).results ++ notRunFrom (s.headDesc b) (x.entryPos + 1))) := by
  have hentry : (((s.stopCell b).abortEntry b).bank b).context = some (x.completeEntry (s.headDesc b) .aborted) := by
    simp [State.abortEntry, State.stopCell, hx]
  have hresults : ((s.stopCell b).abortEntry b).results b = (x.completeEntry (s.headDesc b) .aborted).results := by
    simp only [State.results, hentry]
  have hpos : s.entryPosition b = x.entryPos := by simp only [State.entryPosition, hx]
  rw [State.abortMeasuring, State.dropLease_dropHold_formMeasure hentry, hresults, hpos]
  simp only [State.posting, State.measureRecordOf, State.abortEntry_headDesc, State.abortEntry_headSource,
    State.stopCell_headDesc, State.stopCell_headSource]
  simp [State.now, State.abortEntry, State.stopCell, State.mapContext_eq,
    State.releaseHold_setBank, State.releaseHold_setCell, State.claimSkipped_setBank, State.claimSkipped_setCell]

end Ends

/-! ### A context replaced -/

/-- Bank `b` with its context set. -/
def State.setContext (s : State) (b : Bank) (x : Context) : State := s.setBank b { s.bank b with context := some x }

section Contexts

variable (s : State) (b : Bank) (x : Context)

theorem State.setContext_context : ((s.setContext b x).bank b).context = some x := by simp [State.setContext]

theorem State.setContext_headDesc : (s.setContext b x).headDesc b = s.headDesc b := by simp [State.setContext]

theorem State.setContext_headSource : (s.setContext b x).headSource b = s.headSource b := by simp [State.setContext]

theorem State.mapContext_of_context {s : State} {b : Bank} {x : Context} (hx : (s.bank b).context = some x)
    (f : Context → Context) : s.mapContext b f = s.setContext b (f x) := by
  simp [State.mapContext_eq, State.setContext, hx]

/-- The end of a failed conversion reads the context only for its record. -/
theorem State.endFailed_setContext (rs : FailureReason) :
    (s.setContext b x).endFailed b rs =
      (((s.releaseHold b).claimSkipped (s.headSource b)).setRef b (descRef (s.headDesc b))
        (s.ref b (descRef (s.headDesc b))).conversionFailure).setBank b
          (s.posting b x .refFailed rs (notRunFrom (s.headDesc b) 0)) := by
  rw [State.endFailed_eq (s.setContext_context b x)]
  simp only [State.posting, State.measureRecordOf, State.setContext_headDesc, State.setContext_headSource]
  simp [State.now, State.setContext, State.releaseHold_setBank, State.claimSkipped_setBank]

theorem State.endMeasure_setContext :
    (s.setContext b x).endMeasure b =
      (((s.releaseHold b).claimSkipped (s.headSource b)).setRef b (descRef (s.headDesc b))
        ((s.ref b (descRef (s.headDesc b))).release (s.bank b).lifetime s.now)).setBank b
          (s.posting b (x.dropLease ((s.ref b (descRef (s.headDesc b))).state == .revoked)) (resultStatus x.results)
            .none x.results) := by
  rw [State.endMeasure_eq (s.setContext_context b x)]
  simp only [State.posting, State.measureRecordOf, State.setContext_headDesc, State.setContext_headSource]
  simp [State.now, State.setContext, State.releaseHold_setBank, State.claimSkipped_setBank]

end Contexts

/-! ### The lease (03:R54, 03:R56) -/

/-- A context that has gained the lease of entry `e` and begins its first sample. -/
def Context.gain (x : Context) (e : RefEntry) : Context :=
  { x with
    lease := some { gate := e.gate, nRef := e.nRef, generation := e.generation }, leaseHeld := true, entryPos := 0,
    sampleNo := 1, acc := .zero, firstRejection := none }

/-- A context that begins list entry `i`. -/
def Context.begin (x : Context) (i : Nat) : Context :=
  { x with entryPos := i, sampleNo := 1, acc := .zero, firstRejection := none }

section Lease

variable {s : State} {b : Bank} {x : Context}

theorem State.beginEntry_eq (hx : (s.bank b).context = some x) (i : Nat) :
    s.beginEntry b i = (s.setContext b (x.begin i)).startSampleWindow b := by
  simp only [State.beginEntry, State.mapContext_of_context hx, Context.begin]

theorem State.gainLease_eq (hx : (s.bank b).context = some x) (e : RefEntry) :
    s.gainLease b e =
      (s.setBank b { s.bank b with seq := .measuring, context := some (x.gain e) }).startSampleWindow b := by
  simp [State.gainLease, State.beginEntry, State.mapContext_eq, State.setSeq_eq, hx, Context.gain]

/-- 02:R26, 03:R54. The grant finds a hit: the lease is held and the first sample begins. -/
theorem State.takeGrant_of_hit (hseq : (s.bank b).seq = .starting) (hx : (s.bank b).context = some x)
    (hhit : (s.ref b (descRef (s.headDesc b))).isHit (descNRef (s.headDesc b)) (descForceRef (s.headDesc b))
      (s.bank b).lifetime s.now = true) :
    s.takeGrant b =
      ((s.setRef b (descRef (s.headDesc b)) (s.ref b (descRef (s.headDesc b))).hit).setBank b { s.bank b with
        seq := .measuring,
        context := some ({ x with hold := .granted }.gain (s.ref b (descRef (s.headDesc b))).hit) }
      ).startSampleWindow b := by
  have hctx : (((s.setContext b { x with hold := .granted }).setRef b (descRef (s.headDesc b))
      (s.ref b (descRef (s.headDesc b))).hit).bank b).context = some { x with hold := .granted } := by
    simp [State.setContext]
  rw [State.takeGrant, if_pos hseq, State.mapContext_of_context hx, State.requestLease]
  simp only [State.setContext_headDesc]
  rw [if_pos (by simpa [State.setContext] using hhit), State.gainLease_eq (x := { x with hold := .granted })]
  · simp [State.setContext]
  · simp [State.setContext]

/-- 02:R27, 03:R54. The grant finds a miss: the entry is CONVERTING and the reference window starts. -/
theorem State.takeGrant_of_miss (hseq : (s.bank b).seq = .starting) (hx : (s.bank b).context = some x)
    (hmiss : (s.ref b (descRef (s.headDesc b))).isHit (descNRef (s.headDesc b)) (descForceRef (s.headDesc b))
      (s.bank b).lifetime s.now = false) :
    s.takeGrant b =
      ((s.setRef b (descRef (s.headDesc b)) (s.ref b (descRef (s.headDesc b))).miss).setBank b { s.bank b with
        seq := .reference,
        context := some { x with
          hold := .granted, supplyFailures := 0, flags := { x.flags with refConverted := true } } }
      ).startReferenceWindow b := by
  rw [State.takeGrant, if_pos hseq, State.mapContext_of_context hx, State.requestLease]
  simp only [State.setContext_headDesc]
  rw [if_neg (by simpa [State.setContext] using hmiss)]
  simp [State.mapContext_eq, State.setSeq_eq, State.setContext]

theorem State.takeGrant_of_not_starting (hseq : (s.bank b).seq ≠ .starting) : s.takeGrant b = s := if_neg hseq

end Lease

/-! ### The outcomes (03 section 3.5) -/

section Outcomes

variable {s : State} {b : Bank} {x : Context}

/-- 03:R56. A clean REF_DONE publishes and leases. -/
theorem State.takeRefDone_of_clean (hx : (s.bank b).context = some x) (hlow : s.lowSeen b = false) (g : BitVec 24) :
    s.takeRefDone b g =
      ((s.setRef b (descRef (s.headDesc b)) ((s.ref b (descRef (s.headDesc b))).publish g (descNRef (s.headDesc b))
          s.now)).setBank b { s.bank b with
        seq := .measuring,
        context := some (x.gain ((s.ref b (descRef (s.headDesc b))).publish g (descNRef (s.headDesc b)) s.now)) }
      ).startSampleWindow b := by
  simp only [State.takeRefDone, hx, hlow, Bool.false_eq_true, if_false]
  rw [State.gainLease_eq (by simpa using hx)]
  simp

/-- 03:R57. The first REF_DONE with the flag set is retried. -/
theorem State.takeRefDone_of_retry (hx : (s.bank b).context = some x) (hlow : s.lowSeen b = true)
    (hfirst : x.supplyFailures = 0) (g : BitVec 24) :
    s.takeRefDone b g =
      ((s.setRef b (descRef (s.headDesc b)) (s.ref b (descRef (s.headDesc b))).retry).setBank b { s.bank b with
        context := some { x with supplyFailures := 1, flags := { x.flags with supplyLowSeen := true } } }
      ).startReferenceWindow b := by
  simp [State.takeRefDone, hx, hlow, hfirst, State.mapContext_eq]

/-- 03:R58. The second REF_DONE with the flag set fails the conversion. -/
theorem State.takeRefDone_of_failure (hx : (s.bank b).context = some x) (hlow : s.lowSeen b = true)
    (hsecond : x.supplyFailures ≠ 0) (g : BitVec 24) :
    s.takeRefDone b g =
      (s.setContext b { x with flags := { x.flags with supplyLowSeen := true } }).sendEnd b (.failed .supplyLow) := by
  simp only [State.takeRefDone, hx, hlow, hsecond, if_true, if_false, State.mapContext_of_context hx]

theorem State.takeRefTimeout_eq (hx : (s.bank b).context = some x) :
    s.takeRefTimeout b =
      (s.setContext b { x with flags := { x.flags with supplyLowSeen := x.flags.supplyLowSeen || s.lowSeen b } }
        ).sendEnd b (.failed .timeout) := by
  simp only [State.takeRefTimeout, State.mapContext_of_context hx]

/-- The context after the last sample of its list entry is judged (03:R61). -/
def Context.judged (x : Context) (d : Bytes) (o : Outcome) (low : Bool) : Context :=
  (x.addSample o low).completeEntry d
    (channelStatus (x.addSample o low).acc (x.addSample o low).firstRejection)

theorem Context.addSample_sampleNo (x : Context) (o : Outcome) (low : Bool) :
    (x.addSample o low).sampleNo = x.sampleNo := rfl

theorem Context.judged_entryPos (x : Context) (d : Bytes) (o : Outcome) (low : Bool) :
    (x.judged d o low).entryPos = x.entryPos := rfl

/-- 03:R59. The next sample of the list entry. -/
theorem State.takeSample_of_next (hx : (s.bank b).context = some x) (o : Outcome)
    (hmore : x.sampleNo < descSamples (s.headDesc b)) :
    s.takeSample b o =
      (s.setContext b { x.addSample o (s.lowSeen b) with sampleNo := x.sampleNo + 1 }).startSampleWindow b := by
  simp only [State.takeSample, hx, Context.addSample_sampleNo, hmore, if_true, State.mapContext_of_context hx]

/-- 03:R61. The next list entry. -/
theorem State.takeSample_of_entry (hx : (s.bank b).context = some x) (o : Outcome)
    (hlast : descSamples (s.headDesc b) ≤ x.sampleNo)
    (hmore : x.entryPos + 1 < descChannelCount (s.headDesc b)) :
    s.takeSample b o =
      (s.setContext b ((x.judged (s.headDesc b) o (s.lowSeen b)).begin (x.entryPos + 1))).startSampleWindow b := by
  have hpos : (x.addSample o (s.lowSeen b)).entryPos = x.entryPos := rfl
  simp only [State.takeSample, hx, Context.addSample_sampleNo, Nat.not_lt.mpr hlast, if_false, hpos, hmore, if_true,
    State.mapContext_of_context hx]
  rw [State.beginEntry_eq (State.setContext_context ..)]
  simp [State.setContext, Context.judged]

/-- 03:R63. The end after the last sample of the last list entry. -/
theorem State.takeSample_of_end (hx : (s.bank b).context = some x) (o : Outcome)
    (hlast : descSamples (s.headDesc b) ≤ x.sampleNo)
    (hend : descChannelCount (s.headDesc b) ≤ x.entryPos + 1) :
    s.takeSample b o = (s.setContext b (x.judged (s.headDesc b) o (s.lowSeen b))).sendEnd b .complete := by
  have hpos : (x.addSample o (s.lowSeen b)).entryPos = x.entryPos := rfl
  simp only [State.takeSample, hx, Context.addSample_sampleNo, Nat.not_lt.mpr hlast, if_false, hpos,
    Nat.not_lt.mpr hend, State.mapContext_of_context hx]
  rfl

end Outcomes

end Sys2Proof.Machine
end

section
/-! PROOFS. The obligations of the bank sequencer's lease, outcomes and ends (03 sections 3.5.1 to 3.5.4). -/
namespace Sys2Proof.Machine

open Sys2Proof

/-! ### Start commands (03:R55, 05:R88) -/

theorem State.clearLowSeen_of_granted {s : State} {b : Bank} {h : Holder} (hh : s.holder b = some h)
    (hg : h.status = .granted) :
    s.clearLowSeen b = s.setHolder b (some { h with lowSeen := s.sm.reading == some .low }) := by
  simp [State.clearLowSeen, hh, hg, State.readsLow]

theorem State.startReferenceWindow_of_granted {s : State} {b : Bank} {h : Holder} (hh : s.holder b = some h)
    (hg : h.status = .granted) :
    s.startReferenceWindow b =
      (s.setCell b ((s.cell b).startReference (descRef (s.headDesc b)) (descNRef (s.headDesc b))
        (descSettle (s.headDesc b)))).setHolder b (some { h with lowSeen := s.sm.reading == some .low }) := by
  exact State.clearLowSeen_of_granted (s := s.setCell b _) hh hg

theorem State.startSampleWindow_of_granted {s : State} {b : Bank} {h : Holder} {x : Context} {l : Lease}
    (hh : s.holder b = some h) (hg : h.status = .granted) (hx : (s.bank b).context = some x) (hl : x.lease = some l) :
    s.startSampleWindow b =
      (s.setCell b ((s.cell b).startSample (descChannel (s.headDesc b) x.entryPos) l.gate
        (descSettle (s.headDesc b)))).setHolder b (some { h with lowSeen := s.sm.reading == some .low }) := by
  simp only [State.startSampleWindow, hx, Context.gate, hl]
  exact State.clearLowSeen_of_granted (s := s.setCell b _) hh hg

/-- Settles O18: the grant's three cases, and the two start commands with a granted hold. -/
theorem grantRequestsLeaseAndStartsWindow : Obligations.GrantRequestsLeaseAndStartsWindow := by
  refine ⟨fun b s x => ⟨State.takeGrant_of_not_starting, ?_, ?_⟩, fun b s h hh hg => ⟨?_, fun x l hx hl => ?_⟩⟩
  · exact fun hseq hx hhit => State.takeGrant_of_hit hseq hx hhit
  · exact fun hseq hx hmiss => State.takeGrant_of_miss hseq hx hmiss
  · exact State.startReferenceWindow_of_granted hh hg
  · exact State.startSampleWindow_of_granted hh hg hx hl

/-! ### REF_DONE and REF_TIMEOUT in REFERENCE (03 section 3.5.2) -/

theorem notRunFrom_zero (d : Bytes) : notRunFrom d 0 = (List.range (descChannelCount d)).map fun i =>
    { channel := descChannel d i, status := .notRun, good := 0, rejected := 0, limit := .none, sum := 0, ratio := 0 } :=
  rfl

theorem State.takeOutcome_refDone {s : State} {b : Bank} (hseq : (s.bank b).seq = .reference) (g : BitVec 24) :
    s.takeOutcome b (.refDone g) = s.takeRefDone b g := by
  simp only [State.takeOutcome, hseq]

theorem State.takeOutcome_refTimeout {s : State} {b : Bank} (hseq : (s.bank b).seq = .reference) :
    s.takeOutcome b .refTimeout = s.takeRefTimeout b := by
  simp only [State.takeOutcome, hseq]

/-- An end is sent: it is taken, or stays in flight in the context. -/
theorem State.sendEnd_setContext_cases (s : State) (b : Bank) (x : Context) (k : MeasureEnd) :
    (s.setContext b x).sendEnd b k = ({ s with draws := s.draws + 1 }.setContext b x).finish b k ∨
    (s.setContext b x).sendEnd b k =
      { s with draws := s.draws + 1 }.setContext b { x with endDue := some k } := by
  rcases State.sendEnd_cases (s.setContext b x) b k with h | h
  · exact .inl h
  · refine .inr (h.trans ?_)
    rw [State.mapContext_of_context (x := x) (by exact State.setContext_context s b x)]
    simp only [State.setContext, State.setBank, State.bank]
    simp

/-- The end in flight is taken in RUNNING and STOPPING, with its mark cleared (log 6). -/
theorem State.deliverEnd_of_due {s : State} {b : Bank} {x : Context} {k : MeasureEnd}
    (hw : s.cu.state = .running ∨ s.cu.state = .stopping) (hx : (s.bank b).context = some x)
    (hdue : x.endDue = some k) (hfits : k.fits (s.bank b).seq = true) :
    s.deliverEnd b = (s.setContext b { x with endDue := none }).finish b k := by
  rw [State.deliverEnd_some (State.endInFlight_eq_some.mpr ⟨x, hx, hdue, State.working_of_state hw, hfits⟩),
    State.mapContext_of_context hx]

/-- 03:R58. A conversion that gained no lease ends with the REF_FAILED record. -/
theorem State.endFailed_written (s : State) (b : Bank) (x : Context) (rs : FailureReason) (hl : x.lease = none) :
    let d := s.headDesc b
    let e := s.ref b (descRef d)
    (s.setContext b x).endFailed b rs = { s with
      refs := (s.setRef b (descRef d) { e with state := .empty, revokePending := false, supplyRevoke := false }).refs,
      sm := (s.releaseHold b).sm,
      sched := (s.claimSkipped (s.headSource b)).sched,
      banks := s.banks.set b { s.bank b with
        seq := .posting,
        context := some { x with
          hold := .none,
          record := some {
            slotCount := 1 + (descChannelCount d + 1) / 2, kind := 1, status := .refFailed,
            flags := { x.flags with notify := descNotify d }, tag := descTag d, source := s.headSource b,
            bank := descBank d, ref := descRef d, gate := 0, nRef := descNRef d, generation := 0,
            startTime := x.startTime, endTime := s.now,
            detail := detailBytes rs.code (BitVec.ofNat 8 (s.skippedOf (s.headSource b))) 0 0,
            channels := notRunFrom d 0, snapshot := [] } } } } := by
  rw [State.endFailed_setContext, State.end_eq]
  simp only [State.posting, State.measureRecordOf, measureRecord, Context.gate, hl]
  rfl

/-- Settles O19: the cases of a REF_DONE by the flag and the failures before it, the timeout, and the end in flight. -/
theorem referenceOutcomeInReference : Obligations.ReferenceOutcomeInReference := by
  refine ⟨fun b s x g hseq hx => ⟨fun hlow => ?_, fun hlow hfirst => ?_, fun hlow hsecond hl => ?_⟩,
    fun b s x hseq hx hl => ?_, fun b s x hw hseq hx hl => ⟨fun hdue => ?_, fun hdue => ?_⟩⟩
  · rw [State.takeOutcome_refDone hseq]
    exact State.takeRefDone_of_clean hx hlow g
  · rw [State.takeOutcome_refDone hseq]
    exact State.takeRefDone_of_retry hx hlow hfirst g
  · rw [State.takeOutcome_refDone hseq, State.takeRefDone_of_failure hx hlow hsecond]
    rcases State.sendEnd_setContext_cases s b _ (.failed .supplyLow) with h | h
    · exact .inl (h.trans (State.endFailed_written { s with draws := s.draws + 1 } b _ .supplyLow hl))
    · exact .inr h
  · rw [State.takeOutcome_refTimeout hseq, State.takeRefTimeout_eq hx]
    rcases State.sendEnd_setContext_cases s b _ (.failed .timeout) with h | h
    · exact .inl (h.trans (State.endFailed_written { s with draws := s.draws + 1 } b _ .timeout hl))
    · exact .inr h
  · rw [State.deliverEnd_of_due hw hx hdue (by simp [MeasureEnd.fits, hseq])]
    exact State.endFailed_written s b _ .timeout hl
  · rw [State.deliverEnd_of_due hw hx hdue (by simp [MeasureEnd.fits, hseq])]
    exact State.endFailed_written s b _ .supplyLow hl

/-! ### Sample outcomes in MEASURING (03 sections 3.5.3 and 3.5.4) -/

theorem State.takeOutcome_sample {s : State} {b : Bank} {o : Outcome} {n : BitVec 24}
    (hseq : (s.bank b).seq = .measuring) (ho : o = .good n ∨ o = .openCircuit n ∨ o = .overflow) :
    s.takeOutcome b o = s.takeSample b o := by
  rcases ho with rfl | rfl | rfl <;> simp only [State.takeOutcome, hseq]

/-- 03:R63, 03:R64. A MEASURE that holds a lease ends with its record of results. -/
theorem State.endMeasure_written (s : State) (b : Bank) (z : Context) (l : Lease) (hl : z.lease = some l) :
    let d := s.headDesc b
    let e := s.ref b (descRef d)
    let flags := { z.flags with refRevoked := z.flags.refRevoked || e.state == .revoked }
    (s.setContext b z).endMeasure b = { s with
      refs := (s.setRef b (descRef d) (e.release (s.bank b).lifetime s.now)).refs,
      sm := (s.releaseHold b).sm,
      sched := (s.claimSkipped (s.headSource b)).sched,
      banks := s.banks.set b { s.bank b with
        seq := .posting,
        context := some { z with
          leaseHeld := false, hold := .none, flags := flags,
          record := some {
            slotCount := 1 + (descChannelCount d + 1) / 2, kind := 1, status := resultStatus z.results,
            flags := { flags with notify := descNotify d }, tag := descTag d, source := s.headSource b,
            bank := descBank d, ref := descRef d, gate := l.gate, nRef := l.nRef,
            generation := l.generation, startTime := z.startTime, endTime := s.now,
            detail := detailBytes 0 (BitVec.ofNat 8 (s.skippedOf (s.headSource b))) 0 0,
            channels := z.results, snapshot := [] } } } } := by
  rw [State.endMeasure_setContext, State.end_eq]
  simp only [State.posting, State.measureRecordOf, measureRecord, Context.gate, Context.dropLease, hl]
  rfl

/-- Settles O20: the three ways a sample outcome goes on, and the end in flight. -/
theorem sampleOutcomeAdvancesMeasure : Obligations.SampleOutcomeAdvancesMeasure := by
  refine ⟨fun b s x l o n hseq hx hl ho => ⟨fun hmore => ?_, fun hlast hmore => ?_, fun hlast hend => ?_⟩,
    fun b s x l hw hseq hx hl hdue => ?_⟩
  · rw [State.takeOutcome_sample hseq ho]
    exact State.takeSample_of_next hx o hmore
  · rw [State.takeOutcome_sample hseq ho]
    exact State.takeSample_of_entry hx o hlast hmore
  · rw [State.takeOutcome_sample hseq ho, State.takeSample_of_end hx o hlast hend]
    rcases State.sendEnd_setContext_cases s b (x.judged (s.headDesc b) o (s.lowSeen b)) .complete with h | h
    · exact .inl (h.trans (State.endMeasure_written { s with draws := s.draws + 1 } b _ l hl))
    · exact .inr h
  · rw [State.deliverEnd_of_due hw hx hdue (by simp [MeasureEnd.fits, hseq])]
    exact State.endMeasure_written s b _ l hl

end Sys2Proof.Machine
end

section
/-! PROOFS. The obligations of the bank abort (chapter 4). -/
namespace Sys2Proof.Machine

open Sys2Proof

/-! ### The flush behind the head (04:R76) -/

theorem flushBehind_cons (q : QueueEntry) (qs : List QueueEntry) :
    flushBehind (q :: qs) = q :: qs.map fun e => { e with flushed := true } := rfl

theorem State.flushQueue_of_cons {s : State} {b : Bank} {q : QueueEntry} {qs : List QueueEntry}
    (hq : (s.bank b).queue = q :: qs) :
    s.flushQueue b = s.setBank b { s.bank b with queue := q :: qs.map fun e => { e with flushed := true } } := by
  rw [State.flushQueue, hq, flushBehind_cons]

theorem State.flushQueue_of_nil {s : State} {b : Bank} (hq : (s.bank b).queue = []) : s.flushQueue b = s := by
  have hself : { s.bank b with queue := flushBehind (s.bank b).queue } = s.bank b := by
    rw [hq]
    exact (congrArg (fun qs => { s.bank b with queue := qs }) hq.symm)
  rw [State.flushQueue, hself, State.setBank_self]

theorem State.headDesc_of_cons {s : State} {b : Bank} {q : QueueEntry} {qs : List QueueEntry}
    (hq : (s.bank b).queue = q :: qs) : s.headDesc b = q.desc := by
  simp only [State.headDesc, hq]

theorem State.headSource_of_cons {s : State} {b : Bank} {q : QueueEntry} {qs : List QueueEntry}
    (hq : (s.bank b).queue = q :: qs) : s.headSource b = q.source := by
  simp only [State.headSource, hq]

/-! ### An end leaves the sequencer in POSTING with its queue -/

/-- Every end writes the bank in POSTING with a formed record, and nothing else of the bank. -/
theorem State.finish_bank {s : State} {b : Bank} {x : Context} (hx : (s.bank b).context = some x) (k : MeasureEnd) :
    ∃ y, y.record.isSome = true ∧ (s.finish b k).bank b = { s.bank b with seq := .posting, context := some y } := by
  cases k with
  | complete =>
    rw [State.finish, State.endMeasure_eq hx]
    exact ⟨_, rfl, State.setBank_bank_same ..⟩
  | failed rs =>
    rw [State.finish, State.endFailed_eq hx]
    exact ⟨_, rfl, State.setBank_bank_same ..⟩

theorem State.deliverEnd_bank {s : State} {b : Bank} (h : s.endInFlight b ≠ none) :
    ∃ y, y.record.isSome = true ∧
      (s.deliverEnd b).bank b = { s.bank b with seq := .posting, context := some y } := by
  obtain ⟨k, hk⟩ := Option.ne_none_iff_exists'.mp h
  obtain ⟨x, hx, -⟩ := State.endInFlight_eq_some.mp hk
  rw [State.deliverEnd_some hk, State.mapContext_of_context hx]
  obtain ⟨y, hy, hbank⟩ := State.finish_bank (s.setContext_context b { x with endDue := none }) k
  exact ⟨y, hy, hbank.trans (by simp [State.setContext])⟩

/-! ### The abort by the state of the sequencer -/

section Abort

variable {s : State} {b : Bank}

theorem State.deliverEnd_of_no_end {x : Context} (hx : (s.bank b).context = some x) (hdue : x.endDue = none) :
    s.deliverEnd b = s := by
  apply State.deliverEnd_none
  simp [State.endInFlight, hx, hdue]

/-- An end fits REFERENCE and MEASURING only. -/
theorem State.endInFlight_of_seq (h : (s.bank b).seq ≠ .reference) (h' : (s.bank b).seq ≠ .measuring) :
    s.endInFlight b = none := by
  cases hk : s.endInFlight b with
  | none => rfl
  | some k =>
    obtain ⟨-, -, -, -, hfits⟩ := State.endInFlight_eq_some.mp hk
    cases k <;> simp [MeasureEnd.fits, h, h'] at hfits

theorem State.abortBank_of_idle (hseq : (s.bank b).seq = .idle) : s.abortBank b = s := by
  rw [State.abortBank, State.deliverEnd_none (State.endInFlight_of_seq (by simp [hseq]) (by simp [hseq]))]
  simp only [State.abortActive, hseq]

theorem State.abortBank_of_posting (hseq : (s.bank b).seq = .posting) : s.abortBank b = s.flushQueue b := by
  rw [State.abortBank, State.deliverEnd_none (State.endInFlight_of_seq (by simp [hseq]) (by simp [hseq]))]
  simp only [State.abortActive, hseq]

/-- With the end in flight, the abort finds POSTING. -/
theorem State.abortBank_of_end (h : s.endInFlight b ≠ none) : s.abortBank b = (s.deliverEnd b).flushQueue b := by
  obtain ⟨y, -, hbank⟩ := State.deliverEnd_bank h
  simp only [State.abortBank, State.abortActive, hbank]

end Abort

/-- Settles O23: with the end in flight the flush after it; without, the three states of an active MEASURE. -/
theorem abortEndsActiveMeasure : Obligations.AbortEndsActiveMeasure := by
  refine ⟨fun b s q qs h hq => ?_, fun b s x q qs hx hq hdue => ⟨fun hseq hl => ?_, fun hseq hl => ?_, ?_⟩⟩
  · obtain ⟨y, -, hbank⟩ := State.deliverEnd_bank h
    refine ⟨by rw [hbank], ?_⟩
    rw [State.abortBank_of_end h, State.flushQueue_of_cons (by rw [hbank]; exact hq)]
  · rw [State.abortBank, State.deliverEnd_of_no_end hx hdue]
    simp only [State.abortActive, hseq]
    rw [State.abortStarting_eq hx, State.flushQueue_of_cons (by simpa [State.posting] using hq),
      State.setBank_setBank, State.end_eq0, State.headSource_of_cons hq]
    simp only [State.posting, State.measureRecordOf, measureRecord, Context.gate, hl, State.headSource_of_cons hq,
      State.headDesc_of_cons hq, State.setBank_bank_same]
    rfl
  · rw [State.abortBank, State.deliverEnd_of_no_end hx hdue]
    simp only [State.abortActive, hseq]
    rw [State.abortReference_eq hx, State.flushQueue_of_cons (by simpa [State.posting] using hq),
      State.setBank_setBank, State.end_eqc, State.headSource_of_cons hq, State.headDesc_of_cons hq]
    simp only [State.posting, State.measureRecordOf, measureRecord, Context.gate, hl, State.headSource_of_cons hq,
      State.headDesc_of_cons hq, State.setBank_bank_same]
    rfl
  · intro l hseq hl
    rw [State.abortBank, State.deliverEnd_of_no_end hx hdue]
    simp only [State.abortActive, hseq]
    rw [State.abortMeasuring_eq hx, State.flushQueue_of_cons (by simpa [State.posting] using hq),
      State.setBank_setBank, State.end_eqc, State.headSource_of_cons hq, State.headDesc_of_cons hq]
    simp only [State.posting, State.measureRecordOf, measureRecord, Context.gate, Context.dropLease,
      Context.completeEntry, hl, State.headSource_of_cons hq, State.headDesc_of_cons hq, State.setBank_bank_same]
    rfl

/-! ### BANK_ABORT (04:R69) -/

theorem State.exec_bankAbort {s : State} (hr : s.resetAsserted = false) (v : BitVec 32) :
    exec (.bankAbort v) s = .next (s.writeBankAbort v) := congrArg _ (whenReleased_eq hr)

theorem State.writeBankAbort_of_not_working {s : State} (h : s.working = false) (v : BitVec 32) :
    s.writeBankAbort v = s := by
  simp only [State.writeBankAbort, h, Bool.false_eq_true, if_false]

theorem State.writeBankAbort_of_working {s : State} (h : s.working = true) (v : BitVec 32) :
    s.writeBankAbort v = (List.finRange 4).foldl (fun t b => if v.getLsbD b.val then t.abortBank b else t) s := by
  rw [State.writeBankAbort, if_pos h]
  rfl

/-- A fold that acts on one bank alone acts once. -/
theorem foldl_single (f : State → Bank → State) (p : Bank → Bool) (b : Bank) (hp : ∀ c, p c = decide (c = b))
    (s : State) : (List.finRange 4).foldl (fun t c => if p c then f t c else t) s = f s b := by
  simp only [hp]
  fin_cases b <;> rfl

theorem foldl_none (f : State → Bank → State) (p : Bank → Bool) (hp : ∀ c, p c = false) (s : State) :
    (List.finRange 4).foldl (fun t c => if p c then f t c else t) s = s := by
  simp only [hp]
  rfl

theorem State.not_working {s : State} (h : s.cu.state ≠ .running) (h' : s.cu.state ≠ .stopping) :
    s.working = false := by
  simp [State.working, h, h']

/-- An abort leaves the queue with every entry behind its head flushed (04:R76). -/
theorem State.abortActive_queue {s : State} {b : Bank} (hseq : (s.bank b).seq ≠ .idle) :
    ((s.abortActive b).bank b).queue = flushBehind (s.bank b).queue := by
  have hflush (t : State) : ((t.flushQueue b).bank b).queue = flushBehind (t.bank b).queue := by
    simp [State.flushQueue]
  have hform (t : State) (st : RecordStatus) (rs : FailureReason) (ch : List ChannelEntry) :
      ((t.formMeasure b st rs ch).bank b).queue = (t.bank b).queue := by
    cases hx : (t.bank b).context with
    | none => rw [State.formMeasure_of_no_context hx]
    | some x => simp [State.formMeasure_eq hx]
  cases hs : (s.bank b).seq with
  | idle => exact absurd hs hseq
  | starting => simp [State.abortActive, hs, hflush, hform, State.abortStarting, State.dropHold]
  | reference => simp [State.abortActive, hs, hflush, hform, State.abortReference, State.dropHold]
  | measuring =>
    simp [State.abortActive, hs, hflush, hform, State.abortMeasuring, State.dropHold, State.dropLease,
      State.abortEntry]
  | posting => simp [State.abortActive, hs, hflush]

theorem State.abortBank_queue {s : State} {b : Bank} (hseq : (s.bank b).seq ≠ .idle) :
    ((s.abortBank b).bank b).queue = flushBehind (s.bank b).queue := by
  by_cases h : s.endInFlight b = none
  · rw [State.abortBank, State.deliverEnd_none h, State.abortActive_queue hseq]
  · obtain ⟨y, -, hbank⟩ := State.deliverEnd_bank h
    rw [State.abortBank, State.abortActive_queue (by rw [hbank]; simp), hbank]

/-- Settles O22: the banks a write reaches, and the abort in IDLE and POSTING with the flush behind the head. -/
theorem bankAbortAndFlush : Obligations.BankAbortAndFlush := by
  refine ⟨fun v s hr => ⟨fun h h' => ?_, fun hw => ?_, fun hw b hb => ?_, fun hnone => ?_⟩,
    fun b s => ⟨State.abortBank_of_idle, fun hseq => ⟨fun q qs hq => ?_, fun hq => ?_⟩, fun q qs hseq hq => ?_⟩⟩
  · rw [State.exec_bankAbort hr, State.writeBankAbort_of_not_working (State.not_working h h')]
  · rw [State.exec_bankAbort hr, State.writeBankAbort_of_working (State.working_of_state hw)]
  · rw [State.exec_bankAbort hr, State.writeBankAbort_of_working (State.working_of_state hw),
      foldl_single State.abortBank (fun c => v.getLsbD c.val) b]
    intro c
    rw [hb c.val c.isLt, Bool.eq_iff_iff, beq_iff_eq, decide_eq_true_eq, Fin.ext_iff]
  · rw [State.exec_bankAbort hr]
    cases hw : s.working with
    | false => rw [State.writeBankAbort_of_not_working hw]
    | true =>
      rw [State.writeBankAbort_of_working hw,
        foldl_none State.abortBank (fun c => v.getLsbD c.val) fun c => hnone c.val c.isLt]
  · rw [State.abortBank_of_posting hseq, State.flushQueue_of_cons hq]
  · rw [State.abortBank_of_posting hseq, State.flushQueue_of_nil hq]
  · rw [State.abortBank_queue hseq, hq, flushBehind_cons]

/-! ### What an abort leaves alone (04 section 4.6) -/

/-- The three outcomes of a hold release (05:R87): no hold, another holder left, the last holder gone. -/
theorem State.releaseHold_cases (s : State) (b : Bank) :
    s.holder b = none ∧ s.releaseHold b = s ∨
    (s.holder b).isSome ∧ s.releaseHold b = s.setHolder b none ∨
    (∀ c, c ≠ b → s.holder c = none) ∧ s.releaseHold b = { s with sm := s.sm.clearHolds.applyPending } := by
  cases hb : s.holder b with
  | none => exact .inl ⟨rfl, State.releaseHold_of_no_holder hb⟩
  | some h =>
    refine .inr ?_
    by_cases hothers : ∃ c, c ≠ b ∧ (s.holder c).isSome
    · exact .inl ⟨rfl, State.releaseHold_of_others (by simp [hb]) hothers⟩
    · have hlast : ∀ c, c ≠ b → s.holder c = none := fun c hc =>
        Option.isNone_iff_eq_none.mp (by simpa using fun h => hothers ⟨c, hc, h⟩)
      exact .inr ⟨hlast, State.releaseHold_of_last (by simp [hb]) hlast⟩

theorem SupplyMonitor.clearHolds_applyPending_holders (m : SupplyMonitor) :
    m.clearHolds.applyPending.holders = .replicate 4 none := by
  rw [SupplyMonitor.applyPending_eq]
  rfl

theorem SupplyMonitor.clearHolds_applyPending_state (m : SupplyMonitor) :
    m.clearHolds.applyPending.state = .off := by
  rw [SupplyMonitor.applyPending_eq]
  rfl

theorem State.releaseHold_holder (s : State) (b c : Bank) :
    (s.releaseHold b).holder c = if b = c then none else s.holder c := by
  rcases s.releaseHold_cases b with ⟨hb, heq⟩ | ⟨-, heq⟩ | ⟨hlast, heq⟩ <;> rw [heq]
  · split
    next h => rw [← h, hb]
    next => rfl
  · exact s.setHolder_holder b c none
  · have hnone : ({ s with sm := s.sm.clearHolds.applyPending } : State).holder c = none := by
      simp [State.holder, SupplyMonitor.clearHolds_applyPending_holders]
    rw [hnone]
    split
    next => rfl
    next h => exact (hlast c (Ne.symm h)).symm

/-- A release turns the monitor off, or leaves its state and its parameters. -/
theorem State.releaseHold_monitor (s : State) (b : Bank) :
    (s.releaseHold b).sm.state = .off ∨ (s.releaseHold b).sm.state = s.sm.state ∧
      (s.releaseHold b).sm.level = s.sm.level ∧ (s.releaseHold b).sm.settleTime = s.sm.settleTime ∧
      (s.releaseHold b).sm.pendingParams = s.sm.pendingParams := by
  rcases s.releaseHold_cases b with ⟨-, heq⟩ | ⟨-, heq⟩ | ⟨-, heq⟩ <;> rw [heq]
  · exact .inr ⟨rfl, rfl, rfl, rfl⟩
  · exact .inr ⟨rfl, rfl, rfl, rfl⟩
  · exact .inl (SupplyMonitor.clearHolds_applyPending_state _)

/-- `t` is `s` but for what an abort of bank `b` may write: the bank's context, state and queue behind the head, its
cell, its holder, the entry of its head, the skipped count of its head's schedule entry, and a monitor that turns
off. -/
structure State.ConfinedTo (b : Bank) (s t : State) : Prop where
  desc : t.headDesc b = s.headDesc b
  source : t.headSource b = s.headSource b
  skipped : ∀ e, { t.entry e with skipped := (s.entry e).skipped } = s.entry e
  entry : ∀ e, s.headSource b ≠ .schedule e → t.entry e = s.entry e
  bank : ∀ c, c ≠ b → t.bank c = s.bank c
  cell : ∀ c, c ≠ b → t.cell c = s.cell c
  holder : ∀ c, c ≠ b → t.holder c = s.holder c
  ref : ∀ c r, c = b ∧ r = descRef (s.headDesc b) ∨ t.ref c r = s.ref c r
  enabled : (t.bank b).enabled = (s.bank b).enabled
  lifetime : (t.bank b).lifetime = (s.bank b).lifetime
  monitor : t.sm.state = .off ∨ t.sm.state = s.sm.state ∧ t.sm.level = s.sm.level ∧
    t.sm.settleTime = s.sm.settleTime ∧ t.sm.pendingParams = s.sm.pendingParams

namespace State.ConfinedTo

variable {b : Bank} {s t u : State}

theorem refl (b : Bank) (s : State) : State.ConfinedTo b s s :=
  ⟨rfl, rfl, fun _ => rfl, fun _ _ => rfl, fun _ _ => rfl, fun _ _ => rfl, fun _ _ => rfl, fun _ _ => .inr rfl, rfl,
    rfl, .inr ⟨rfl, rfl, rfl, rfl⟩⟩

theorem trans (h : State.ConfinedTo b s t) (k : State.ConfinedTo b t u) : State.ConfinedTo b s u where
  desc := k.desc.trans h.desc
  source := k.source.trans h.source
  skipped e := by
    rw [← h.skipped e, ← k.skipped e]
  entry e he := (k.entry e (by rwa [h.source])).trans (h.entry e he)
  bank c hc := (k.bank c hc).trans (h.bank c hc)
  cell c hc := (k.cell c hc).trans (h.cell c hc)
  holder c hc := (k.holder c hc).trans (h.holder c hc)
  ref c r := by
    rcases k.ref c r with hk | hk
    · exact .inl (by rwa [h.desc] at hk)
    · rw [hk]
      exact h.ref c r
  enabled := k.enabled.trans h.enabled
  lifetime := k.lifetime.trans h.lifetime
  monitor := by
    rcases k.monitor with hk | ⟨hs, hl, ht, hp⟩
    · exact .inl hk
    · rw [hs, hl, ht, hp]
      exact h.monitor

/-- A write of the bank that keeps its head and its parameters. -/
theorem setBank {k : BankSeq} (hd : k.queue.head? = (s.bank b).queue.head?) (he : k.enabled = (s.bank b).enabled)
    (hl : k.lifetime = (s.bank b).lifetime) : State.ConfinedTo b s (s.setBank b k) where
  desc := by
    simp only [State.headDesc, State.setBank_bank_same]
    cases hk : k.queue <;> cases hs : (s.bank b).queue <;> simp_all
  source := by
    simp only [State.headSource, State.setBank_bank_same]
    cases hk : k.queue <;> cases hs : (s.bank b).queue <;> simp_all
  skipped _ := rfl
  entry _ _ := rfl
  bank c hc := State.setBank_bank_of_ne s hc.symm k
  cell _ _ := rfl
  holder _ _ := rfl
  ref _ _ := .inr rfl
  enabled := by rw [State.setBank_bank_same, he]
  lifetime := by rw [State.setBank_bank_same, hl]
  monitor := .inr ⟨rfl, rfl, rfl, rfl⟩

theorem mapContext (f : Context → Context) : State.ConfinedTo b s (s.mapContext b f) := setBank rfl rfl rfl

theorem setSeq (q : SeqState) : State.ConfinedTo b s (s.setSeq b q) := setBank rfl rfl rfl

theorem flushQueue : State.ConfinedTo b s (s.flushQueue b) :=
  setBank (by cases h : (s.bank b).queue <;> rfl) rfl rfl

theorem setCell (c : Cell) : State.ConfinedTo b s (s.setCell b c) :=
  { refl b s with cell := fun _ hc => State.setCell_cell_of_ne s hc.symm c }

theorem setRef (e : RefEntry) : State.ConfinedTo b s (s.setRef b (descRef (s.headDesc b)) e) :=
  { refl b s with
    ref := fun c r => by
      rw [State.setRef_ref]
      split
      next h => exact .inl ⟨h.1.symm, h.2.symm⟩
      next => exact .inr rfl }

theorem claimSkipped : State.ConfinedTo b s (s.claimSkipped (s.headSource b)) := by
  cases hsrc : s.headSource b with
  | ring n => exact refl b s
  | schedule e =>
    refine { refl b s with skipped := fun i => ?_, entry := fun i hi => ?_ }
    · simp only [State.claimSkipped, State.setEntry_entry]
      split
      next h => rw [h]
      next => rfl
    · exact State.setEntry_entry_of_ne s (fun h => hi (by rw [hsrc, h])) _

theorem releaseHold : State.ConfinedTo b s (s.releaseHold b) :=
  { refl b s with
    desc := State.releaseHold_headDesc s b b
    source := State.releaseHold_headSource s b b
    skipped := fun e => by simp
    entry := fun e _ => by simp
    bank := fun c _ => by simp
    cell := fun c _ => by simp
    ref := fun c r => by simp
    enabled := by simp
    lifetime := by simp
    holder := fun c hc => by rw [State.releaseHold_holder, if_neg (Ne.symm hc)]
    monitor := s.releaseHold_monitor b }

/-! The compound acts. -/

theorem formMeasure (st : RecordStatus) (rs : FailureReason) (ch : List ChannelEntry) :
    State.ConfinedTo b s (s.formMeasure b st rs ch) := by
  unfold State.formMeasure
  split
  · exact refl b s
  · exact claimSkipped.trans ((mapContext _).trans (setSeq _))

theorem dropHold : State.ConfinedTo b s (s.dropHold b) := releaseHold.trans (mapContext _)

theorem dropLease : State.ConfinedTo b s (s.dropLease b) := (setRef _).trans (mapContext _)

theorem endFailed (rs : FailureReason) : State.ConfinedTo b s (s.endFailed b rs) :=
  (setRef _).trans (dropHold.trans (formMeasure _ _ _))

theorem endMeasure : State.ConfinedTo b s (s.endMeasure b) := dropLease.trans (dropHold.trans (formMeasure _ _ _))

theorem finish (k : MeasureEnd) : State.ConfinedTo b s (s.finish b k) := by
  cases k with
  | complete => exact endMeasure
  | failed rs => exact endFailed rs

theorem deliverEnd : State.ConfinedTo b s (s.deliverEnd b) := by
  unfold State.deliverEnd
  split
  · exact refl b s
  · exact (mapContext _).trans (finish _)

theorem stopCell : State.ConfinedTo b s (s.stopCell b) := setCell _

theorem abortActive : State.ConfinedTo b s (s.abortActive b) := by
  unfold State.abortActive
  split
  · exact refl b s
  · exact (dropHold.trans (formMeasure _ _ _)).trans flushQueue
  · exact (stopCell.trans ((setRef _).trans (dropHold.trans (formMeasure _ _ _)))).trans flushQueue
  · exact (stopCell.trans ((mapContext _).trans (dropLease.trans (dropHold.trans (formMeasure _ _ _))))).trans
      flushQueue
  · exact flushQueue

theorem abortBank : State.ConfinedTo b s (s.abortBank b) := deliverEnd.trans abortActive

end State.ConfinedTo

/-- Settles O24: an abort is made of acts that are each confined to the bank. -/
theorem abortConfinedToBank : Obligations.AbortConfinedToBank := by
  intro b s
  have h : State.ConfinedTo b s (s.abortBank b) := .abortBank
  obtain ⟨hcu, hrings, hfu, hcw, heu, -, hhp, -⟩ := s.abortBank_frame b
  refine ⟨hrings, hfu, hcw, hhp, heu, hcu, h.skipped, h.entry, fun c hc => ?_, fun r hr => ?_, h.enabled, h.lifetime,
    fun hon => ?_⟩
  · exact ⟨h.bank c hc, h.cell c hc, h.holder c hc, fun r => (h.ref c r).resolve_left fun he => hc he.1⟩
  · exact (h.ref b r).resolve_left fun he => hr he.2
  · exact (h.monitor.resolve_left hon).2

end Sys2Proof.Machine
end

section
/-! PROOFS. The obligations of the take (03 section 3.4), of the hold request and the settle end (05 section 5.2), and
of the admission (03 section 3.2). -/
namespace Sys2Proof.Machine

open Sys2Proof

/-! ### The take, row by row (03:R51) -/

section Take

variable {s : State} {b : Bank} {q : QueueEntry} {qs : List QueueEntry}

theorem State.takeHead_of_nil (hq : (s.bank b).queue = []) : s.takeHead b = s := by
  simp only [State.takeHead, hq]

/-- Bank `b` in POSTING with a record formed at the take (03:R49, 03:R52, 03:R53). -/
def BankSeq.formed (k : BankSeq) (now : Time) (r : Record) : BankSeq :=
  { k with seq := .posting, context := some { newContext now with record := some r } }

/-- 03:R53. A flushed entry. -/
theorem State.takeHead_of_flushed (hq : (s.bank b).queue = q :: qs) (hf : q.flushed = true) :
    s.takeHead b = (s.claimSkipped q.source).setBank b
      ((s.bank b).formed s.now (flushedRecord (s.bank b) q s.now (s.skippedOf q.source))) := by
  rw [State.takeHead, hq]
  simp only [hf, if_true, State.enterPosting_eq, State.claimSkipped_setBank,
    State.setBank_bank_same, State.setBank_setBank]
  rfl

/-- 03:R49. A SET_BANK. -/
theorem State.takeHead_of_setBank (hq : (s.bank b).queue = q :: qs) (hf : q.flushed = false)
    (hk : descKind q.desc = Kind.setBank.code) :
    s.takeHead b = s.setBank b
      (((s.bank b).applySetBank q.desc).formed s.now (setBankRecord (s.bank b) q s.now)) := by
  rw [State.takeHead, hq]
  simp only [hf, hk, if_true, Bool.false_eq_true, if_false, State.enterPosting_eq,
    State.setBank_bank_same, State.setBank_setBank]
  rfl

/-- 03:R52. A MEASURE on a disabled bank. -/
theorem State.takeHead_of_disabled (hq : (s.bank b).queue = q :: qs) (hf : q.flushed = false)
    (hk : descKind q.desc ≠ Kind.setBank.code) (he : (s.bank b).enabled = false) :
    s.takeHead b = (s.claimSkipped q.source).setBank b
      ((s.bank b).formed s.now (bankDisabledRecord q s.now (s.skippedOf q.source))) := by
  have he' : ¬ (s.bank b).enabled = true := by simp [he]
  rw [State.takeHead, hq]
  simp only [hf, hk, if_neg he', Bool.false_eq_true, if_false, State.enterPosting_eq,
    State.claimSkipped_setBank, State.setBank_bank_same, State.setBank_setBank]
  rfl

/-- Bank `b` in STARTING with a fresh context that has requested its hold (03:R54). -/
def BankSeq.started (k : BankSeq) (now : Time) : BankSeq :=
  { k with seq := .starting, context := some { newContext now with hold := .requested } }

/-- 03:R54. A MEASURE on an enabled bank. -/
theorem State.takeHead_of_enabled (hq : (s.bank b).queue = q :: qs) (hf : q.flushed = false)
    (hk : descKind q.desc ≠ Kind.setBank.code) (he : (s.bank b).enabled = true) :
    s.takeHead b = (s.setBank b ((s.bank b).started s.now)).requestHold b := by
  rw [State.takeHead, hq]
  simp only [hf, hk, if_pos he, Bool.false_eq_true, if_false, State.setSeq_eq,
    State.mapContext_eq, State.setBank_bank_same, State.setBank_setBank]
  rfl

end Take

theorem setBank_code : Kind.setBank.code = 2#8 := rfl

/-- Settles O15: the rows of the take, with their records written out, and the skipped count by the source. -/
theorem takeActsByFirstRow : Obligations.TakeActsByFirstRow := by
  refine ⟨fun b s q qs hq => ⟨fun hf hk => ?_, fun hf hk => ?_, fun hf hk => ?_, fun hf hk he => ?_,
      fun hf hk he => ?_⟩,
    fun s => ⟨fun n => ⟨rfl, rfl⟩, fun e => ⟨rfl, rfl⟩⟩⟩
  · rw [State.takeHead_of_flushed hq hf]
    simp only [BankSeq.formed, flushedRecord, setBank_code, hk, ← bankDetail_eq]
    simp only [baseRecord, hk]
    rfl
  · rw [State.takeHead_of_flushed hq hf]
    simp only [BankSeq.formed, flushedRecord, setBank_code, hk]
    simp only [baseRecord, hk]
    rfl
  · rw [State.takeHead_of_setBank hq hf hk]
    simp only [BankSeq.formed, setBankRecord, ← bankDetail_eq]
    rfl
  · rw [State.takeHead_of_disabled hq hf (by rw [hk, setBank_code]; decide) he]
    rfl
  · rw [State.takeHead_of_enabled hq hf (by rw [hk, setBank_code]; decide) he]
    rfl

/-! ### The hold request and the notices (05:R85, 02:R38) -/

theorem RefPair.takeNotice_of_none {p : RefPair} (h : p.noticeDue = false) : p.takeNotice = p := by
  simp [RefPair.takeNotice, h]

theorem State.deliverNotice_of_none {s : State} {b : Bank} (h : s.refs[b].noticeDue = false) :
    s.deliverNotice b = s := by
  rw [State.deliverNotice, RefPair.takeNotice_of_none h]
  simp

theorem State.deliverNotice_of_due {s : State} {b : Bank} (h : s.refs[b].noticeDue = true) :
    s.deliverNotice b = { s with refs := s.refs.set b { s.refs[b] with noticeDue := false } }.supplyLowNotice b := by
  rw [State.deliverNotice, RefPair.takeNotice, if_pos h]
  simp [State.supplyLowNotice, State.setRef, State.ref, RefPair.entry, RefPair.setEntry]

theorem State.deliverNotice_eq (s : State) (b : Bank) :
    s.deliverNotice b = if s.refs[b].noticeDue then
        { s with refs := s.refs.set b { s.refs[b] with noticeDue := false } }.supplyLowNotice b
      else s := by
  split
  next h => exact State.deliverNotice_of_due h
  next h => exact State.deliverNotice_of_none (by simpa using h)

theorem State.addHolder_of_off {s : State} {b : Bank} (h : s.sm.state = .off) :
    s.addHolder b = { s with sm := { s.sm with
      state := .settling, settleTimer := 0,
      holders := s.sm.holders.set b (some { status := .waiting, lowSeen := false }),
      reading := some s.powerOnReading } } := by
  simp only [State.addHolder, h]
  rfl

theorem State.addHolder_of_settling {s : State} {b : Bank} (h : s.sm.state = .settling) :
    s.addHolder b = s.setHolder b (some { status := .waiting, lowSeen := false }) := by
  simp only [State.addHolder, h]

theorem State.addHolder_of_watching {s : State} {b : Bank} (h : s.sm.state = .watching) :
    s.addHolder b = (s.setHolder b (some { status := .granted, lowSeen := s.readsLow })).grantHolder b := by
  simp only [State.addHolder, h]

theorem State.grantHolder_of_high {s : State} {b : Bank} (h : s.sm.reading = some .high) :
    s.grantHolder b = s.sendGrant b := by
  simp [State.grantHolder, State.readsLow, h]

theorem State.grantHolder_of_low {s : State} {b : Bank} (h : s.sm.reading = some .low) :
    s.grantHolder b = (s.sendNotice b).sendGrant b := by
  simp [State.grantHolder, State.readsLow, h]

/-! ### A start command after a grant finds the flag already as the comparator reads (05:R88) -/

/-- Bank `b`'s low-seen flag is what a clear request would set it to. -/
def State.FlagFresh (s : State) (b : Bank) : Prop :=
  ∀ h, s.holder b = some h → h.lowSeen = (s.readsLow && h.status == .granted)

theorem State.setHolder_self (s : State) (b : Bank) : s.setHolder b (s.holder b) = s := by
  simp [State.setHolder, State.holder]

theorem State.clearLowSeen_of_fresh {s : State} {b : Bank} (hf : s.FlagFresh b) : s.clearLowSeen b = s := by
  unfold State.clearLowSeen
  split
  next => rfl
  next h hh =>
    rw [← hf h hh]
    exact (congrArg (s.setHolder b) hh.symm).trans (s.setHolder_self b)

theorem State.startReferenceWindow_sm {s : State} {b : Bank} (hf : s.FlagFresh b) :
    (s.startReferenceWindow b).sm = s.sm := by
  rw [State.startReferenceWindow, State.clearLowSeen_of_fresh (s := s.setCell b _) hf]
  rfl

theorem State.startSampleWindow_sm {s : State} {b : Bank} (hf : s.FlagFresh b) :
    (s.startSampleWindow b).sm = s.sm := by
  unfold State.startSampleWindow
  split
  · rfl
  · dsimp only
    rw [State.clearLowSeen_of_fresh (s := s.setCell b _) hf]
    rfl

theorem State.takeGrant_sm {s : State} {b : Bank} (hf : s.FlagFresh b) : (s.takeGrant b).sm = s.sm := by
  by_cases hseq : (s.bank b).seq = .starting
  · rw [State.takeGrant, if_pos hseq, State.requestLease]
    dsimp only
    split
    · exact State.startSampleWindow_sm hf
    · exact State.startReferenceWindow_sm hf
  · rw [State.takeGrant_of_not_starting hseq]

theorem State.sendGrant_sm {s : State} {b : Bank} (hf : s.FlagFresh b) : (s.sendGrant b).sm = s.sm := by
  rcases s.sendGrant_cases b with h | h <;> rw [h]
  exact State.takeGrant_sm hf

theorem State.FlagFresh.of_sm {s t : State} {b : Bank} (hf : s.FlagFresh b) (h : t.sm = s.sm) : t.FlagFresh b := by
  simpa only [State.FlagFresh, State.holder, State.readsLow, h] using hf

theorem State.grantHolder_sm {s : State} {b : Bank} (hf : s.FlagFresh b) : (s.grantHolder b).sm = s.sm := by
  unfold State.grantHolder
  split
  · rw [State.sendGrant_sm (hf.of_sm (by simp))]
    simp
  · exact State.sendGrant_sm hf

/-! ### The settle end (05:R86) -/

theorem State.grantAll_holder (s : State) (b : Bank) :
    ({ s with sm := s.sm.grantAll } : State).holder b =
      (s.holder b).map fun _ => { status := .granted, lowSeen := s.sm.reading == some .low } := by
  simp [State.holder, SupplyMonitor.grantAll]

theorem State.grantAll_fresh (s : State) (b : Bank) : ({ s with sm := s.sm.grantAll } : State).FlagFresh b := by
  intro h hh
  rw [State.grantAll_holder] at hh
  obtain ⟨-, -, rfl⟩ := Option.map_eq_some_iff.mp hh
  simp [State.readsLow, SupplyMonitor.grantAll]

theorem State.grantAtSettleEnd_sm {s : State} {b : Bank} (hf : s.FlagFresh b) : (s.grantAtSettleEnd b).sm = s.sm := by
  unfold State.grantAtSettleEnd
  split
  · exact State.grantHolder_sm hf
  · rfl

/-- Two folds whose steps agree wherever an invariant holds that the steps keep. -/
theorem foldl_congr_of_inv {α : Type} {I : State → Prop} {f g : State → α → State}
    (hfg : ∀ s a, I s → f s a = g s a) (hI : ∀ s a, I s → I (f s a)) (l : List α) :
    ∀ s, I s → l.foldl f s = l.foldl g s ∧ I (l.foldl f s) := by
  induction l with
  | nil => exact fun s hs => ⟨rfl, hs⟩
  | cons a l ih =>
    intro s hs
    obtain ⟨heq, hinv⟩ := ih (f s a) (hI s a hs)
    exact ⟨by rw [List.foldl_cons, List.foldl_cons, heq, hfg s a hs], hinv⟩

/-- The grants of the settle end find the monitor as the settle end left it, and leave it so. -/
theorem State.grantAtSettleEnd_fold (s : State) (g : State → Bank → State)
    (hg : ∀ t b, t.sm = s.sm.grantAll → t.grantAtSettleEnd b = g t b) :
    (List.finRange 4).foldl State.grantAtSettleEnd { s with sm := s.sm.grantAll } =
      (List.finRange 4).foldl g { s with sm := s.sm.grantAll } ∧
    ((List.finRange 4).foldl State.grantAtSettleEnd { s with sm := s.sm.grantAll }).sm = s.sm.grantAll :=
  foldl_congr_of_inv (I := fun t => t.sm = s.sm.grantAll) hg
    (fun _ b ht => (State.grantAtSettleEnd_sm ((s.grantAll_fresh b).of_sm ht)).trans ht) _ _ rfl

theorem SupplyMonitor.settleEndDue_iff (m : SupplyMonitor) :
    m.settleEndDue = true ↔ m.state = .settling ∧ m.settleTime * 100 ≤ m.settleTimer := by
  simp only [SupplyMonitor.settleEndDue, Bool.and_eq_true, beq_iff_eq, decide_eq_true_eq]
  rfl

theorem State.exec_supplySettleEnd_due {s : State} (hr : s.resetAsserted = false) (hdue : s.sm.settleEndDue = true) :
    exec .supplySettleEnd s = .next (((List.finRange 4).foldl State.grantAtSettleEnd
      { s with sm := s.sm.grantAll }).raiseIf s.readsLow .supplyLow) := by
  refine congrArg _ ((whenReleased_eq hr).trans ?_)
  rw [if_pos hdue, State.supplySettleEnd, if_pos hdue]
  rfl

theorem State.exec_supplySettleEnd_not_due {s : State} (hr : s.resetAsserted = false)
    (hdue : s.sm.settleEndDue = false) :
    exec .supplySettleEnd s = .next ((List.finRange 4).foldl State.deliverSome s) := by
  refine congrArg _ ((whenReleased_eq hr).trans ?_)
  simp only [hdue, Bool.false_eq_true, if_false]

theorem State.grantAtSettleEnd_of_high {s t : State} {b : Bank} (ht : t.sm = s.sm.grantAll)
    (hhigh : s.sm.reading = some .high) :
    t.grantAtSettleEnd b = if (s.holder b).isSome then t.sendGrant b else t := by
  have hholder : (t.holder b).isSome = (s.holder b).isSome := by
    simp [State.holder, ht, SupplyMonitor.grantAll]
  rw [State.grantAtSettleEnd, hholder, State.grantHolder_of_high (by rw [ht]; exact hhigh)]

theorem State.grantAtSettleEnd_of_low {s t : State} {b : Bank} (ht : t.sm = s.sm.grantAll)
    (hlow : s.sm.reading = some .low) :
    t.grantAtSettleEnd b = if (s.holder b).isSome then (t.sendNotice b).sendGrant b else t := by
  have hholder : (t.holder b).isSome = (s.holder b).isSome := by
    simp [State.holder, ht, SupplyMonitor.grantAll]
  rw [State.grantAtSettleEnd, hholder, State.grantHolder_of_low (by rw [ht]; exact hlow)]

theorem State.fold_grants_eu (s : State) :
    ((List.finRange 4).foldl State.grantAtSettleEnd s).eu = s.eu :=
  foldl_keeps State.eu State.grantAtSettleEnd (by simp) _ s

/-! ### Messages in flight (log 6) -/

theorem State.messageDue_iff (s : State) (b : Bank) :
    s.messageDue b = true ↔ s.refs[b].noticeDue = true ∨ s.endInFlight b ≠ none ∨
      (s.cu.state = .running ∨ s.cu.state = .stopping) ∧ (s.bank b).seq = .starting ∧
        (s.holder b).any (fun h => h.status == .granted) = true := by
  have hgranted : s.holdGranted b = (s.holder b).any fun h => h.status == .granted := by
    unfold State.holdGranted
    cases s.holder b <;> rfl
  simp [State.messageDue, State.grantDue, State.working, hgranted, Option.isSome_iff_ne_none, or_assoc, and_assoc]

theorem State.deliverSome_of_none {s : State} {b : Bank} (h : s.messageDue b = false) : s.deliverSome b = s := by
  simp [State.deliverSome, h]

/-- Each message in flight is taken, or not yet, as a free value says. -/
theorem State.deliverSome_of_due {s : State} {b : Bank} (h : s.messageDue b = true) :
    ∃ notice ending grant : Bool,
      let u := { s with draws := s.draws + 3 }
      let v := if notice then u.deliverNotice b else u
      let w := if ending then v.deliverEnd b else v
      s.deliverSome b = if grant then w.deliverGrant b else w :=
  ⟨Config.arrivesNow s.draws, Config.arrivesNow (s.draws + 1), Config.arrivesNow (s.draws + 2), if_pos h⟩

theorem State.foldl_deliverSome_of_none {s : State} (h : ∀ b, s.messageDue b = false) :
    (List.finRange 4).foldl State.deliverSome s = s := by
  have hfold (l : List Bank) : l.foldl State.deliverSome s = s := by
    induction l with
    | nil => rfl
    | cons b l ih => rw [List.foldl_cons, State.deliverSome_of_none (h b), ih]
  exact hfold _

/-- Settles O17: what is sent is taken or stays; the request by the monitor's state; the settle end by the reading; and
the later part of a settle end. -/
theorem holdRequestAndSettleEnd : Obligations.HoldRequestAndSettleEnd := by
  refine ⟨fun b s => ⟨s.sendGrant_cases b, s.sendNotice_cases b⟩, fun b s => s.deliverNotice_eq b,
    fun b s => ⟨fun h => State.addHolder_of_settling (s := s.deliverNotice b) h, fun h hhigh => ?_, fun h hlow => ?_⟩,
    fun s hr hset htime => ?_, fun s hr hnot => ?_⟩
  · have hread : (s.deliverNotice b).readsLow = false := by simp [State.readsLow, hhigh]
    rw [State.requestHold, State.addHolder_of_watching (s := s.deliverNotice b) h, hread]
    exact State.grantHolder_of_high hhigh
  · have hread : (s.deliverNotice b).readsLow = true := by simp [State.readsLow, hlow]
    rw [State.requestHold, State.addHolder_of_watching (s := s.deliverNotice b) h, hread]
    exact State.grantHolder_of_low hlow
  · have hdue := s.sm.settleEndDue_iff.mpr ⟨hset, htime⟩
    refine ⟨fun hhigh => ?_, fun hlow => ?_⟩
    · have hread : s.readsLow = false := by simp [State.readsLow, hhigh]
      obtain ⟨hfold, -⟩ := s.grantAtSettleEnd_fold _ fun t b ht => State.grantAtSettleEnd_of_high ht hhigh
      rw [State.exec_supplySettleEnd_due hr hdue, hfold, hread]
      have hmonitor : s.sm.grantAll = { s.sm with
          state := .watching
          holders := s.sm.holders.map fun h => h.map fun _ => { status := .granted, lowSeen := false } } := by
        have hflag : (Reading.high == Reading.low) = false := rfl
        simp [SupplyMonitor.grantAll, hhigh, hflag]
      rw [hmonitor]
      rfl
    · have hread : s.readsLow = true := by simp [State.readsLow, hlow]
      obtain ⟨hfold, hsm⟩ := s.grantAtSettleEnd_fold _ fun t b ht => State.grantAtSettleEnd_of_low ht hlow
      have heu := State.fold_grants_eu { s with sm := s.sm.grantAll }
      have hmonitor : s.sm.grantAll = { s.sm with
          state := .watching
          holders := s.sm.holders.map fun h => h.map fun _ => { status := .granted, lowSeen := true } } := by
        simp [SupplyMonitor.grantAll, hlow]
      rw [hfold] at hsm heu
      rw [State.exec_supplySettleEnd_due hr hdue, hfold, hread]
      rw [hmonitor] at hsm heu ⊢
      refine ⟨?_, by rw [hsm], fun b => ?_⟩
      · simp only [State.raiseIf, if_true, State.raise, heu]
        rfl
      · rw [State.holder, hsm]
        simp [State.holder]
  · have hdue : s.sm.settleEndDue = false := by
      rw [Bool.eq_false_iff, Ne, SupplyMonitor.settleEndDue_iff]
      rintro ⟨hset, htime⟩
      rcases hnot with h | h
      · exact h hset
      · omega
    refine ⟨State.exec_supplySettleEnd_not_due hr hdue, fun hnone => ?_, fun t b => ⟨fun hd => ?_, fun hd => ?_⟩⟩
    · rw [State.exec_supplySettleEnd_not_due hr hdue, State.foldl_deliverSome_of_none fun b => ?_]
      rw [Bool.eq_false_iff, Ne, State.messageDue_iff]
      exact hnone b
    · apply State.deliverSome_of_none
      rw [Bool.eq_false_iff, Ne, State.messageDue_iff]
      exact hd
    · exact State.deliverSome_of_due ((t.messageDue_iff b).mpr hd)

/-! ### The IDLE sequencer's own takes (log 7) -/

theorem State.measureNext_of_queue {s : State} {b : Bank} {q : QueueEntry} {qs : List QueueEntry}
    (hw : s.working = true) (hseq : (s.bank b).seq = .idle) (he : (s.bank b).enabled = true)
    (hq : (s.bank b).queue = q :: qs) (hf : q.flushed = false) (hk : descKind q.desc = 1) :
    s.measureNext b = true := by
  simp [State.measureNext, State.nextTake, hw, hseq, he, hq, hf, hk, Kind.measure_code]

theorem State.measureNext_of_grantable {s : State} {b : Bank} {c : Candidate}
    (hw : s.working = true) (hseq : (s.bank b).seq = .idle) (he : (s.bank b).enabled = true)
    (hq : (s.bank b).queue = []) (hc : s.grantable b = some c) (hk : descKind c.desc = 1) :
    s.measureNext b = true := by
  simp [State.measureNext, State.nextTake, hw, hseq, he, hq, hc, hk, Kind.measure_code]

theorem State.setBankNext_of_queue {s : State} {b : Bank} {q : QueueEntry} {qs : List QueueEntry}
    (hw : s.working = true) (hseq : (s.bank b).seq = .idle)
    (hq : (s.bank b).queue = q :: qs) (hf : q.flushed = false) (hk : descKind q.desc = 2) :
    s.setBankNext b = true := by
  simp [State.setBankNext, State.nextTake, hw, hseq, hq, hf, hk, setBank_code]

theorem State.setBankNext_of_grantable {s : State} {b : Bank} {c : Candidate}
    (hw : s.working = true) (hseq : (s.bank b).seq = .idle)
    (hq : (s.bank b).queue = []) (hc : s.grantable b = some c) (hk : descKind c.desc = 2) :
    s.setBankNext b = true := by
  simp [State.setBankNext, State.nextTake, hw, hseq, hq, hc, hk, setBank_code]

theorem State.exec_measure_next {s : State} {b : Bank} (hr : s.resetAsserted = false) (h : s.measureNext b = true) :
    exec (.measure b) s = .next (s.takeNext b) := by
  refine congrArg _ ((whenReleased_eq hr).trans ?_)
  simp only [h, if_true]

theorem State.exec_setBank_next {s : State} {b : Bank} (hr : s.resetAsserted = false) (h : s.setBankNext b = true) :
    exec (.setBank b) s = .next (s.takeNext b) := by
  refine congrArg _ ((whenReleased_eq hr).trans ?_)
  simp only [h, if_true]

theorem State.takeNext_of_queue {s : State} {b : Bank} {q : QueueEntry} {qs : List QueueEntry}
    (hq : (s.bank b).queue = q :: qs) : s.takeNext b = s.takeHead b := by
  simp only [State.takeNext, hq]

theorem State.takeNext_of_grantable {s : State} {b : Bank} {c : Candidate} (hq : (s.bank b).queue = [])
    (hc : s.grantable b = some c) : s.takeNext b = s.admitCandidate b c := by
  simp only [State.takeNext, hq, hc]

theorem State.admitCandidate_of_idle {s : State} {b : Bank} (hseq : (s.bank b).seq = .idle) (c : Candidate) :
    s.admitCandidate b c = ((s.admitAtOwner b c).joinQueue b c).takeHead b := if_pos hseq

/-- Settles O16: the two commands take the queue head, or the descriptor that is admitted with them. -/
theorem idleSequencerTakesMeasureOrSetBank : Obligations.IdleSequencerTakesMeasureOrSetBank := by
  refine ⟨fun b s hr hw hseq he => ⟨fun q qs hq hf hk hoff => ?_, fun c hq hc hk => ?_⟩,
    fun b s hr hw hseq => ⟨fun q qs hq hf hk => ?_, fun c hq hc hk => ?_⟩⟩
  · rw [State.exec_measure_next hr (State.measureNext_of_queue hw hseq he hq hf hk), State.takeNext_of_queue hq,
      State.takeHead_of_enabled hq hf (by rw [hk, setBank_code]; decide) he, State.requestHold,
      State.addHolder_of_off (s := (s.setBank b _).deliverNotice b) hoff]
    rfl
  · rw [State.exec_measure_next hr (State.measureNext_of_grantable hw hseq he hq hc hk),
      State.takeNext_of_grantable hq hc, State.admitCandidate_of_idle hseq]
  · rw [State.exec_setBank_next hr (State.setBankNext_of_queue hw hseq hq hf hk), State.takeNext_of_queue hq,
      State.takeHead_of_setBank hq hf hk]
    simp only [BankSeq.formed, setBankRecord, ← bankDetail_eq, baseRecord, hk]
    rfl
  · rw [State.exec_setBank_next hr (State.setBankNext_of_grantable hw hseq hq hc hk),
      State.takeNext_of_grantable hq hc, State.admitCandidate_of_idle hseq]

end Sys2Proof.Machine
end

section
/-! PROOFS. The admission arbiter's choice and the admission (03 section 3.2). -/
namespace Sys2Proof.Machine

open Sys2Proof

/-! ### Searches -/

/-- The first match among all numbers is at the lowest one that matches. -/
theorem findSome_finRange {n : Nat} {β : Type} {f : Fin n → Option β} {c : β}
    (h : (List.finRange n).findSome? f = some c) : ∃ e, f e = some c ∧ ∀ i < e, f i = none := by
  obtain ⟨before, e, after, hsplit, he, hbefore⟩ := findSome_first f _ c h
  refine ⟨e, he, fun i hi => ?_⟩
  have hsorted := List.pairwise_lt_finRange n
  have hmem : i ∈ before ++ e :: after := hsplit ▸ List.mem_finRange i
  rw [hsplit, List.pairwise_append, List.pairwise_cons] at hsorted
  rcases List.mem_append.mp hmem with hb | ha
  · exact hbefore i hb
  · rcases List.mem_cons.mp ha with rfl | ha
    · exact absurd hi (lt_irrefl _)
    · exact absurd (hsorted.2.1.1 i ha) (not_lt_of_gt hi)

/-- The first match in round robin after ring `m` is at the first distance that matches. -/
theorem findSome_roundRobin {β : Type} {f : Ring → Option β} {m : Ring} {c : β}
    (h : (roundRobin m).findSome? f = some c) :
    ∃ j, 1 ≤ j ∧ j ≤ 4 ∧ f (ringAfter m j) = some c ∧ ∀ k, 1 ≤ k → k < j → f (ringAfter m k) = none := by
  simp only [roundRobin, List.findSome?_cons, List.findSome?_nil] at h
  split at h
  next h1 => exact ⟨1, le_refl _, by decide, h1.trans h, fun k hk hk' => by omega⟩
  next h1 =>
    split at h
    next h2 =>
      refine ⟨2, by decide, by decide, h2.trans h, fun k hk hk' => ?_⟩
      obtain rfl : k = 1 := by omega
      exact h1
    next h2 =>
      split at h
      next h3 =>
        refine ⟨3, by decide, by decide, h3.trans h, fun k hk hk' => ?_⟩
        obtain rfl | rfl : k = 1 ∨ k = 2 := by omega
        · exact h1
        · exact h2
      next h3 =>
        split at h
        next h4 =>
          refine ⟨4, by decide, le_refl _, h4.trans h, fun k hk hk' => ?_⟩
          obtain rfl | rfl | rfl : k = 1 ∨ k = 2 ∨ k = 3 := by omega
          · exact h1
          · exact h2
          · exact h3
        next => cases h

theorem mem_roundRobin : ∀ m n : Ring, n ∈ roundRobin m := by decide

/-- The distance at which a ring stands in round robin after ring `m`. -/
theorem distance_ringAfter (m : Ring) {j : Nat} (h1 : 1 ≤ j) (h4 : j ≤ 4) :
    ((ringAfter m j).val + 4 - m.val - 1) % 4 + 1 = j := by
  have hval : (ringAfter m j).val = (m.val + j) % 4 := rfl
  have := m.isLt
  omega

/-! ### Offers (03:R45) -/

theorem State.scheduleOffers_eq_some {s : State} {b : Bank} {e : Entry} {c : Candidate} :
    s.scheduleOffers b e = some c ↔ ∃ d, (s.entry e).state = .ready ∧ (s.entry e).held = some d ∧ descBank d = b ∧
      c = .schedule e d := by
  unfold State.scheduleOffers
  split
  next h =>
    simp only [Option.map_eq_some_iff, Option.filter_eq_some_iff, beq_iff_eq, h, true_and]
    exact ⟨fun ⟨d, ⟨hd, hb⟩, hc⟩ => ⟨d, hd, hb, hc.symm⟩, fun ⟨d, hd, hb, hc⟩ => ⟨d, ⟨hd, hb⟩, hc.symm⟩⟩
  next h => simp [h]

theorem State.ringOffers_eq_some {s : State} {b : Bank} {n : Ring} {c : Candidate} :
    s.ringOffers b n = some c ↔ ∃ d, (s.ring n).state = .blocked ∧ (s.ring n).staging = some d ∧ descBank d = b ∧
      c = .ring n d := by
  unfold State.ringOffers
  split
  next h =>
    simp only [Option.map_eq_some_iff, Option.filter_eq_some_iff, beq_iff_eq, h, true_and]
    exact ⟨fun ⟨d, ⟨hd, hb⟩, hc⟩ => ⟨d, hd, hb, hc.symm⟩, fun ⟨d, hd, hb, hc⟩ => ⟨d, ⟨hd, hb⟩, hc.symm⟩⟩
  next h => simp [h]

theorem State.scheduleOffers_eq_none {s : State} {b : Bank} {e : Entry} :
    s.scheduleOffers b e = none ↔
      ∀ d, (s.entry e).state = .ready → (s.entry e).held = some d → descBank d ≠ b := by
  rw [Option.eq_none_iff_forall_ne_some]
  simp only [Ne, State.scheduleOffers_eq_some]
  exact ⟨fun h d h1 h2 h3 => h _ ⟨d, h1, h2, h3, rfl⟩, fun h c ⟨d, h1, h2, h3, _⟩ => h d h1 h2 h3⟩

theorem State.ringOffers_eq_none {s : State} {b : Bank} {n : Ring} :
    s.ringOffers b n = none ↔
      ∀ d, (s.ring n).state = .blocked → (s.ring n).staging = some d → descBank d ≠ b := by
  rw [Option.eq_none_iff_forall_ne_some]
  simp only [Ne, State.ringOffers_eq_some]
  exact ⟨fun h d h1 h2 h3 => h _ ⟨d, h1, h2, h3, rfl⟩, fun h c ⟨d, h1, h2, h3, _⟩ => h d h1 h2 h3⟩

/-- The candidate chosen: a schedule entry's, the lowest; or, with none, a ring's, the first in round robin. -/
theorem State.chooseCandidate_cases {s : State} {b : Bank} {c : Candidate} (h : s.chooseCandidate b = some c) :
    (∃ e, s.scheduleOffers b e = some c ∧ ∀ i < e, s.scheduleOffers b i = none) ∨
    (∀ e, s.scheduleOffers b e = none) ∧ ∃ j, 1 ≤ j ∧ j ≤ 4 ∧
      s.ringOffers b (ringAfter (s.bank b).lastAdmitted j) = some c ∧
      ∀ k, 1 ≤ k → k < j → s.ringOffers b (ringAfter (s.bank b).lastAdmitted k) = none := by
  unfold State.chooseCandidate at h
  cases hs : (List.finRange 8).findSome? (s.scheduleOffers b) with
  | some c' =>
    rw [hs, Option.orElse_some] at h
    cases h
    exact .inl (findSome_finRange hs)
  | none =>
    rw [hs, Option.orElse_none] at h
    exact .inr ⟨fun e => List.findSome?_eq_none_iff.mp hs e (List.mem_finRange e), findSome_roundRobin h⟩

theorem State.grantable_eq_some {s : State} {b : Bank} {c : Candidate} :
    s.grantable b = some c ↔ s.working = true ∧ (s.bank b).queue.length < 4 ∧ s.chooseCandidate b = some c := by
  simp [State.grantable, and_assoc]

/-! ### The admission (03:R46) -/

theorem State.exec_admission_of_some {s : State} {b : Bank} {c : Candidate} (hr : s.resetAsserted = false)
    (hc : s.grantable b = some c) : exec (.admission b) s = .next (s.admitCandidate b c) := by
  refine congrArg _ ((whenReleased_eq hr).trans ?_)
  simp only [hc]

theorem State.exec_admission_of_none {s : State} {b : Bank} (hr : s.resetAsserted = false)
    (hc : s.grantable b = none) : exec (.admission b) s = .next s := by
  refine congrArg _ ((whenReleased_eq hr).trans ?_)
  simp only [hc]

/-- Both parts of the admission of a ring's descriptor. -/
theorem State.admit_ring (s : State) (b : Bank) (n : Ring) (d : Bytes) :
    (s.admitAtOwner b (.ring n d)).joinQueue b (.ring n d) =
      ((s.setRing n { s.ring n with
        staging := none, consumed := (s.ring n).consumed + 1, outstanding := (s.ring n).outstanding + 1,
        state := .idle }).writeStatus).setBank b { s.bank b with
          lastAdmitted := n
          queue := (s.bank b).queue ++ [{ desc := d, source := .ring n, flushed := false }] } := by
  simp [State.admitAtOwner, State.joinQueue, Candidate.desc, Candidate.source]

/-- Both parts of the admission of a scheduled template. -/
theorem State.admit_schedule (s : State) (b : Bank) (e : Entry) (d : Bytes) :
    (s.admitAtOwner b (.schedule e d)).joinQueue b (.schedule e d) =
      (s.setEntry e { s.entry e with state := .outstanding, held := none }).setBank b { s.bank b with
        queue := (s.bank b).queue ++ [{ desc := d, source := .schedule e, flushed := false }] } := rfl

/-- Settles O21: the arbiter's choice both ways, and the admission at each kind of owner. -/
theorem admissionChoosesAndMoves : Obligations.AdmissionChoosesAndMoves := by
  refine ⟨fun b s => ⟨fun c hc => ?_, fun e d hc => ?_, fun n d hc => ?_, fun hw hlen hnone => ?_⟩,
    fun b s hr => ⟨fun n d hc => ?_, fun e d hc => ?_, fun hc => ?_⟩⟩
  · obtain ⟨hw, hlen, -⟩ := State.grantable_eq_some.mp hc
    exact ⟨hw, hlen⟩
  · obtain ⟨-, -, hchoose⟩ := State.grantable_eq_some.mp hc
    rcases State.chooseCandidate_cases hchoose with ⟨i, hi, hlow⟩ | ⟨-, j, -, -, hj, -⟩
    · obtain ⟨d', hready, hheld, hbank, heq⟩ := State.scheduleOffers_eq_some.mp hi
      cases heq
      exact ⟨hready, hheld, hbank, fun i d' hlt => State.scheduleOffers_eq_none.mp (hlow i hlt) d'⟩
    · obtain ⟨d', -, -, -, heq⟩ := State.ringOffers_eq_some.mp hj
      cases heq
  · obtain ⟨-, -, hchoose⟩ := State.grantable_eq_some.mp hc
    rcases State.chooseCandidate_cases hchoose with ⟨i, hi, -⟩ | ⟨hnone, j, hj1, hj4, hj, hfirst⟩
    · obtain ⟨d', -, -, -, heq⟩ := State.scheduleOffers_eq_some.mp hi
      cases heq
    · obtain ⟨d', hblocked, hstaging, hbank, heq⟩ := State.ringOffers_eq_some.mp hj
      cases heq
      refine ⟨hblocked, hstaging, hbank, fun e d' => State.scheduleOffers_eq_none.mp (hnone e) d',
        fun k hk1 hkj d' => ?_⟩
      rw [distance_ringAfter _ hj1 hj4] at hkj
      exact State.ringOffers_eq_none.mp (hfirst k hk1 hkj) d'
  · have hchoose : s.chooseCandidate b = none := by simpa [State.grantable, hw, hlen] using hnone
    unfold State.chooseCandidate at hchoose
    cases hs : (List.finRange 8).findSome? (s.scheduleOffers b) with
    | some c => rw [hs, Option.orElse_some] at hchoose; cases hchoose
    | none =>
      rw [hs, Option.orElse_none] at hchoose
      exact ⟨fun e d => State.scheduleOffers_eq_none.mp
          (List.findSome?_eq_none_iff.mp hs e (List.mem_finRange e)) d,
        fun n d => State.ringOffers_eq_none.mp (List.findSome?_eq_none_iff.mp hchoose n (mem_roundRobin _ n)) d⟩
  · rw [State.exec_admission_of_some hr hc, State.admitCandidate, State.admit_ring]
  · rw [State.exec_admission_of_some hr hc, State.admitCandidate, State.admit_schedule]
  · exact State.exec_admission_of_none hr hc

end Sys2Proof.Machine
end

section
/-! PROOFS. One inversion of everything that a command can do to the bank sequencers, their leases, their holds and
their requests: a command is a sequence of the changes below. What each change keeps is proved once per invariant. -/
namespace Sys2Proof.Machine

open Sys2Proof

/-! ### The grant (08:R123, 08:R125) -/

/-- The grant stays sound while the writer and the oldest of the posting list stand and no sequencer leaves POSTING. -/
theorem State.GrantSound.of_seq {s t : State} (h : s.GrantSound) (hcw : t.cw = s.cw)
    (hposting : t.fu.posting = s.fu.posting)
    (hseq : ∀ b, (s.bank b).seq = .posting → (t.bank b).seq = .posting) : t.GrantSound := by
  obtain ⟨hnone, hreq⟩ := h
  refine ⟨by rw [hcw]; exact hnone, fun g hg => ?_⟩
  rw [hcw] at hg
  have hg' := hreq g hg
  cases hq : g.requester with
  | bs b => simp only [hq] at hg' ⊢; exact hseq b hg'
  | fu => simp only [hq, hposting] at hg' ⊢; exact hg'

theorem State.GrantSound.of_none {t : State} (hgrant : t.cw.grant = .none) (hgranted : t.cw.granted = none) :
    t.GrantSound :=
  ⟨by simp [hgrant, hgranted], fun g hg => by simp [hgranted] at hg⟩

/-! ### What no claim of the sequencers does to an entry -/

/-- The entry keeps what the sequencers claim of it, and its marks stay sound. -/
structure RefEntry.Marks (e e' : RefEntry) : Prop where
  converting : e'.state = .converting ↔ e.state = .converting
  leased : e'.leased = e.leased
  sound : e.MarksSound → e'.MarksSound

theorem RefEntry.invalidate_marks (e : RefEntry) : e.Marks e.invalidate := by
  obtain ⟨state, leased, revoke, supply, -, -, -, -⟩ := e
  cases state <;> cases leased <;>
    exact ⟨by simp [RefEntry.invalidate], by simp [RefEntry.invalidate],
      by simp +contextual [RefEntry.MarksSound, RefEntry.invalidate]⟩

theorem RefEntry.supplyLow_marks (e : RefEntry) : e.Marks e.supplyLow := by
  by_cases h : e.state = .converting
  · have heq : e.supplyLow = { e with supplyRevoke := true } := by simp [RefEntry.supplyLow, h]
    rw [heq]
    refine ⟨Iff.rfl, rfl, fun ⟨h1, h2, h3, _⟩ => ⟨h1, h2, h3, fun _ => h⟩⟩
  · have heq : e.supplyLow = e.invalidate := by
      cases hs : e.state <;> simp_all [RefEntry.supplyLow]
    rw [heq]
    exact e.invalidate_marks

theorem RefEntry.retry_marks (e : RefEntry) : e.Marks e.retry :=
  ⟨Iff.rfl, rfl, fun ⟨h1, h2, h3, _⟩ => ⟨h1, h2, h3, fun h => by simp [RefEntry.retry] at h⟩⟩

theorem RefEntry.Marks.refl (e : RefEntry) : e.Marks e := ⟨Iff.rfl, rfl, id⟩

/-! ### What the monitor does to its holders but for a request and a release -/

/-- The monitor keeps its holders, none goes back to WAITING, and it stays sound. -/
structure SupplyMonitor.Evolves (m m' : SupplyMonitor) : Prop where
  sound : m.Sound → m'.Sound
  holders : ∀ b : Bank, m'.holders[b].isSome = m.holders[b].isSome
  waiting : ∀ (b : Bank) h', m'.holders[b] = some h' → h'.status = .waiting →
    ∃ h, m.holders[b] = some h ∧ h.status = .waiting

/-- A hold request joins the hold set (05:R85, 05:R88). -/
def State.enterHold (s : State) (b : Bank) : State :=
  match s.sm.state with
  | .off =>
    let t := s.setHolder b (some { status := .waiting, lowSeen := false })
    { t with sm := { t.sm with state := .settling, settleTimer := 0, reading := some s.powerOnReading } }
  | .settling => s.setHolder b (some { status := .waiting, lowSeen := false })
  | .watching => s.setHolder b (some { status := .granted, lowSeen := s.readsLow })

/-- In WATCHING the request is granted with it; otherwise it waits. -/
theorem State.addHolder_eq (s : State) (b : Bank) :
    s.addHolder b = if s.sm.state = .watching then (s.enterHold b).grantHolder b else s.enterHold b := by
  unfold State.addHolder State.enterHold
  cases s.sm.state <;> rfl

/-! ### The changes -/

/-- `t` shows the sequencers, the entries and the hold set of `s`. -/
structure State.Frame (s t : State) : Prop where
  resetting : t.cu.state ≠ .resetting → s.cu.state ≠ .resetting
  grant : s.GrantSound → t.GrantSound
  queue : ∀ b, (t.bank b).queue = (s.bank b).queue
  seq : ∀ b, (t.bank b).seq = (s.bank b).seq
  context : ∀ b, (t.bank b).context = (s.bank b).context
  ref : ∀ b r, t.ref b r = s.ref b r
  monitor : t.sm.state = s.sm.state
  reading : t.sm.reading = s.sm.reading
  holders : t.sm.holders = s.sm.holders

/-- The reference that bank `b`'s head names. -/
def State.headRef (s : State) (b : Bank) : Ref := descRef (s.headDesc b)

/-- What the end of a MEASURE does to its entry, by the state of the sequencer (02:R31, 02:R32, 04:R70). -/
def State.endClaim (s : State) (b : Bank) : RefEntry :=
  match (s.bank b).seq with
  | .reference => (s.ref b (s.headRef b)).conversionFailure
  | .measuring => (s.ref b (s.headRef b)).release (s.bank b).lifetime s.now
  | _ => s.ref b (s.headRef b)

/-- One change. `G` says that the requester of a granted record is known to be in POSTING, so that a sequencer that
leaves POSTING leaves no grant behind. -/
inductive State.Change (G : Prop) : State → State → Prop
  /-- Anything but the sequencers, the entries and the hold set. -/
  | frame {s t : State} (h : s.Frame t) : State.Change G s t
  /-- An entry is invalidated, retried or noticed. -/
  | entry (s : State) (b : Bank) (r : Ref) (e : RefEntry) (h : (s.ref b r).Marks e) :
      State.Change G s (s.setRef b r e)
  /-- The comparator, the flags and the grants of the monitor. -/
  | monitor (s : State) (m : SupplyMonitor) (h : s.sm.Evolves m) : State.Change G s { s with sm := m }
  /-- A sequencer that stays in its state with its active descriptor. -/
  | bank (s : State) (b : Bank) (k : BankSeq) (hseq : k.seq = (s.bank b).seq)
      (hsound : (s.bank b).Sound → k.Sound)
      (hhead : (s.bank b).Sound → k.seq ≠ .idle → k.queue.head? = (s.bank b).queue.head?) :
      State.Change G s (s.setBank b k)
  /-- The lease is gained, by a hit or by a publication (03:R54, 03:R56). -/
  | lease (s : State) (b : Bank) (k : BankSeq) (e : RefEntry)
      (hfrom : (s.bank b).seq = .starting ∧ (∃ h, s.holder b = some h ∧ h.status = .granted) ∨
        (s.bank b).seq = .reference)
      (hto : k.seq = .measuring) (hqueue : k.queue = (s.bank b).queue) (hsound : (s.bank b).Sound → k.Sound)
      (hleased : e.leased = true) (hstate : e.state = .valid ∨ e.state = .revoked)
      (hmarks : (s.ref b (s.headRef b)).MarksSound → e.revokePending = false ∧ e.supplyRevoke = false) :
      State.Change G s ((s.setRef b (s.headRef b) e).setBank b k)
  /-- The lease request misses (03:R54). -/
  | convert (s : State) (b : Bank) (k : BankSeq) (hfrom : (s.bank b).seq = .starting)
      (hheld : ∃ h, s.holder b = some h ∧ h.status = .granted) (hto : k.seq = .reference)
      (hqueue : k.queue = (s.bank b).queue) (hsound : (s.bank b).Sound → k.Sound) :
      State.Change G s ((s.setRef b (s.headRef b) (s.ref b (s.headRef b)).miss).setBank b k)
  /-- An active MEASURE ends, by its own rule or by an abort (03:R58, 03:R63, 04:R70 to 04:R73). -/
  | finish (s : State) (b : Bank) (k : BankSeq) (hfrom : (s.bank b).seq.HasHold) (hto : k.seq = .posting)
      (hsound : (s.bank b).Sound → k.Sound) :
      State.Change G s (((s.releaseHold b).setRef b (s.headRef b) (s.endClaim b)).setBank b k)
  /-- A sequencer without an active MEASURE takes its next descriptor or none (03:R49, 03:R52, 03:R53, 03:R66). -/
  | turn (s : State) (b : Bank) (k : BankSeq)
      (hfree : G → (s.bank b).seq = .idle ∨ (s.bank b).seq = .posting ∧ s.cw.granted = none)
      (hto : k.seq = .idle ∨ k.seq = .posting) (hsound : (s.bank b).Sound → k.Sound) :
      State.Change G s (s.setBank b k)
  /-- A sequencer without an active MEASURE takes one and requests its hold (03:R54). -/
  | start (s : State) (b : Bank) (k : BankSeq)
      (hfree : G → (s.bank b).seq = .idle ∨ (s.bank b).seq = .posting ∧ s.cw.granted = none)
      (hto : k.seq = .starting) (hsound : (s.bank b).Sound → k.Sound) :
      State.Change G s ((s.enterHold b).setBank b k)
  /-- A sequencer without a context outside IDLE, which no sound state has. -/
  | lost (s t : State) (b : Bank) (hseq : (s.bank b).seq ≠ .idle) (hcontext : (s.bank b).context = none)
      (hgrant : s.GrantSound → t.GrantSound) : State.Change G s t
  /-- Entry to FAULTED (10:R161). -/
  | fault (s : State) (code : FaultCode) (addr : BitVec 16) : State.Change G s (s.enterFaulted code addr)
  /-- Entry to RESETTING (10:R162). -/
  | halt (s : State) : State.Change G s s.enterResetting
  /-- The reset values (10:R163). -/
  | reset (s : State) : State.Change G s s.resetBlocks

/-- A sequence of changes. -/
def State.Changes (G : Prop) : State → State → Prop := Relation.ReflTransGen (State.Change G)

/-- What each change keeps, a sequence of them keeps. -/
theorem State.Changes.keeps {G : Prop} {P : State → Prop} (h : ∀ s t, State.Change G s t → P s → P t) {s t : State}
    (hst : State.Changes G s t) (hs : P s) : P t := by
  induction hst with
  | refl => exact hs
  | tail _ hc ih => exact h _ _ hc ih

/-! ### Getters after the changes -/

theorem State.enterHold_holder (s : State) (b c : Bank) (h : b ≠ c) : (s.enterHold b).holder c = s.holder c := by
  unfold State.enterHold
  split <;> exact State.setHolder_holder_of_ne s h _

theorem State.enterHold_holder_same (s : State) (b : Bank) :
    ∃ h, (s.enterHold b).holder b = some h ∧ (h.status = .granted ↔ s.sm.state = .watching) ∧
      (h.lowSeen = true → h.status = .granted) := by
  unfold State.enterHold
  cases hs : s.sm.state <;> exact ⟨_, State.setHolder_holder_same s b _, by simp, by simp⟩

theorem State.enterHold_frame (s : State) (b : Bank) :
    (s.enterHold b).cu = s.cu ∧ (s.enterHold b).fu = s.fu ∧ (s.enterHold b).cw = s.cw ∧
    (s.enterHold b).banks = s.banks ∧ (s.enterHold b).refs = s.refs := by
  unfold State.enterHold
  split <;> exact ⟨rfl, rfl, rfl, rfl, rfl⟩

theorem State.bank_of_banks {s t : State} (h : t.banks = s.banks) (b : Bank) : t.bank b = s.bank b := by
  simp only [State.bank, h]

theorem State.ref_of_refs {s t : State} (h : t.refs = s.refs) (b : Bank) (r : Ref) : t.ref b r = s.ref b r := by
  simp only [State.ref, h]

theorem State.headDesc_of_head {s t : State} {b : Bank}
    (h : (t.bank b).queue.head? = (s.bank b).queue.head?) : t.headDesc b = s.headDesc b := by
  simp only [State.headDesc]
  cases ht : (t.bank b).queue <;> cases hs : (s.bank b).queue <;> simp_all

end Sys2Proof.Machine
end

section
/-! PROOFS. What each change of the sequencers keeps: the banks (03:R43, 03:R50), the grant (08:R125), the leases
(02:R23, 02:R28) and the holds (05:R84). -/
namespace Sys2Proof.Machine

open Sys2Proof

/-! ### The banks -/

theorem BankSeq.Sound.idle {k : BankSeq} (hq : k.queue = []) (hs : k.seq = .idle) (hc : k.context = none) : k.Sound :=
  ⟨by simp [hq], by simp [hq, hs], by simp [hs, hc], fun x hx => by simp [hc] at hx⟩

/-- Outside IDLE, with its context. -/
theorem BankSeq.Sound.active {k : BankSeq} {x : Context} (hlen : k.queue.length ≤ 4) (hq : k.queue ≠ [])
    (hs : k.seq ≠ .idle) (hc : k.context = some x) (hrec : k.seq = .posting ↔ x.record.isSome) : k.Sound :=
  ⟨hlen, by simp [hq, hs], by simp [hs, hc], fun y hy => by cases hc.symm.trans hy; exact hrec⟩

/-- The invariant of a bank reads its queue, its state and its context. -/
theorem BankSeq.Sound.of_eq {k k' : BankSeq} (h : k.Sound) (hq : k'.queue = k.queue) (hs : k'.seq = k.seq)
    (hc : k'.context = k.context) : k'.Sound := by
  simpa only [BankSeq.Sound, hq, hs, hc] using h

theorem BankSeq.Sound.context_of_seq {k : BankSeq} (h : k.Sound) (hs : k.seq ≠ .idle) : ∃ x, k.context = some x :=
  Option.ne_none_iff_exists'.mp fun hc => hs (h.2.2.1.mpr hc)

theorem BankSeq.Sound.queue_of_seq {k : BankSeq} (h : k.Sound) (hs : k.seq ≠ .idle) : k.queue ≠ [] :=
  fun hq => hs (h.2.1.mpr hq)

theorem BankSeq.fault_sound (k : BankSeq) : k.fault.Sound := .idle rfl rfl rfl

theorem BankSeq.reset_sound : BankSeq.reset.Sound := .idle rfl rfl rfl

theorem State.enterFaulted_bank (s : State) (code : FaultCode) (addr : BitVec 16) (b : Bank) :
    (s.enterFaulted code addr).bank b = (s.bank b).fault := by
  simp [State.enterFaulted, State.raise, State.faultBlocks, State.bank]

theorem State.resetBlocks_bank (s : State) (b : Bank) : s.resetBlocks.bank b = .reset := by
  simp [State.resetBlocks, State.reset, State.bank]

theorem State.BanksSound.setBank {s u : State} {b : Bank} {k : BankSeq} (h : s.BanksSound) (hu : u.banks = s.banks)
    (hk : (s.bank b).Sound → k.Sound) : (u.setBank b k).BanksSound := by
  intro c
  rw [State.setBank_bank]
  split
  · exact hk (h b)
  · rw [State.bank_of_banks hu]
    exact h c

theorem State.Change.keeps_banks {G : Prop} {s t : State} (hc : State.Change G s t) (h : s.BanksSound) :
    t.BanksSound := by
  cases hc with
  | frame hf => exact fun b => (h b).of_eq (hf.queue b) (hf.seq b) (hf.context b)
  | entry | monitor | halt => exact h
  | bank b k _ hsound => exact h.setBank rfl hsound
  | lease b k e _ _ _ hsound => exact h.setBank rfl hsound
  | convert b k _ _ _ _ hsound => exact h.setBank rfl hsound
  | finish b k _ _ hsound => exact h.setBank (by simp) hsound
  | turn b k _ _ hsound => exact h.setBank rfl hsound
  | start b k _ _ hsound => exact h.setBank (s.enterHold_frame b).2.2.2.1 hsound
  | lost _ b hseq hcontext => exact absurd ((h b).2.2.1.mpr hcontext) hseq
  | fault code addr =>
    intro b
    rw [State.enterFaulted_bank]
    exact BankSeq.fault_sound _
  | reset =>
    intro b
    rw [State.resetBlocks_bank]
    exact BankSeq.reset_sound

/-! ### The grant -/

theorem State.GrantSound.setBank {s u : State} {b : Bank} {k : BankSeq} (h : s.GrantSound) (hcw : u.cw = s.cw)
    (hfu : u.fu = s.fu) (hbanks : u.banks = s.banks) (hk : (s.bank b).seq = .posting → k.seq = .posting) :
    (u.setBank b k).GrantSound := by
  refine h.of_seq hcw (congrArg _ hfu) fun c hseq => ?_
  rw [State.setBank_bank]
  split
  next hbc => exact hk (hbc ▸ hseq)
  next => rwa [State.bank_of_banks hbanks]

/-- A sequencer that leaves POSTING leaves no grant behind. -/
theorem State.GrantSound.setBank_free {s u : State} {b : Bank} {k : BankSeq} (h : s.GrantSound) (hcw : u.cw = s.cw)
    (hfu : u.fu = s.fu) (hbanks : u.banks = s.banks)
    (hfree : (s.bank b).seq = .idle ∨ (s.bank b).seq = .posting ∧ s.cw.granted = none) :
    (u.setBank b k).GrantSound := by
  rcases hfree with hidle | ⟨-, hnone⟩
  · exact h.setBank hcw hfu hbanks fun hposting => by simp [hidle] at hposting
  · refine .of_none ?_ ?_
    · rw [State.setBank_cw, hcw]
      exact h.1.mpr hnone
    · rw [State.setBank_cw, hcw]
      exact hnone

theorem State.Change.keeps_grant {s t : State} (hc : State.Change True s t) (h : s.GrantSound) : t.GrantSound := by
  cases hc with
  | frame hf => exact hf.grant h
  | entry | monitor | halt => exact h
  | bank b k hseq => exact h.setBank rfl rfl rfl fun hp => hseq.trans hp
  | lease b k e hfrom =>
    refine h.setBank rfl rfl rfl fun hp => ?_
    rcases hfrom with ⟨hs, -⟩ | hs <;> simp [hs] at hp
  | convert b k hfrom => exact h.setBank rfl rfl rfl fun hp => by simp [hfrom] at hp
  | finish b k _ hto => exact h.setBank (by simp) (by simp) (by simp) fun _ => hto
  | turn b k hfree => exact h.setBank_free rfl rfl rfl (hfree trivial)
  | start b k hfree =>
    obtain ⟨-, hfu, hcw, hbanks, -⟩ := s.enterHold_frame b
    exact h.setBank_free hcw hfu hbanks (hfree trivial)
  | lost _ b _ _ hgrant => exact hgrant h
  | fault => exact .of_none rfl rfl
  | reset => exact .of_none rfl rfl

/-! ### The leases -/

/-- The two entries of bank `b` agree with its sequencer. -/
def State.ClaimsSound (s : State) (b : Bank) : Prop :=
  ∀ r, (s.ref b r).MarksSound ∧
    ((s.ref b r).state = .converting ↔ (s.bank b).seq = .reference ∧ s.headRef b = r) ∧
    ((s.ref b r).leased = true ↔ (s.bank b).seq = .measuring ∧ s.headRef b = r)

theorem State.leasesSound_iff (s : State) :
    s.LeasesSound ↔ s.BanksSound ∧ s.GrantSound ∧ ∀ b, s.ClaimsSound b := Iff.rfl

/-- An entry that no sequencer converts or leases. -/
def RefEntry.Unclaimed (e : RefEntry) : Prop := e.MarksSound ∧ e.state ≠ .converting ∧ e.leased = false

/-- Outside REFERENCE and MEASURING the sequencer claims none of its entries. -/
theorem State.claimsSound_iff_unclaimed {s : State} {b : Bank} (hr : (s.bank b).seq ≠ .reference)
    (hm : (s.bank b).seq ≠ .measuring) : s.ClaimsSound b ↔ ∀ r, (s.ref b r).Unclaimed := by
  simp [State.ClaimsSound, RefEntry.Unclaimed, hr, hm]

theorem State.ClaimsSound.of_eq {s t : State} {b : Bank} (h : s.ClaimsSound b) (href : ∀ r, t.ref b r = s.ref b r)
    (hseq : (t.bank b).seq = (s.bank b).seq)
    (hhead : (s.bank b).seq = .idle ∨ t.headDesc b = s.headDesc b) : t.ClaimsSound b := by
  rcases hhead with hidle | hhead
  · rw [State.claimsSound_iff_unclaimed (by simp [hseq, hidle]) (by simp [hseq, hidle])]
    rw [State.claimsSound_iff_unclaimed (by simp [hidle]) (by simp [hidle])] at h
    exact fun r => href r ▸ h r
  · simpa only [State.ClaimsSound, State.headRef, href, hseq, hhead] using h

/-- A change of bank `b` leaves the claims of the others. -/
theorem State.ClaimsSound.of_other {s u : State} {b c : Bank} {k : BankSeq} (h : s.ClaimsSound c) (hbc : b ≠ c)
    (hbanks : u.banks = s.banks) (href : ∀ r, u.ref c r = s.ref c r) : (u.setBank b k).ClaimsSound c := by
  have hbank : (u.setBank b k).bank c = s.bank c := by
    rw [State.setBank_bank_of_ne _ hbc, State.bank_of_banks hbanks]
  exact h.of_eq href (by rw [hbank]) (.inr (State.headDesc_of_head (by rw [hbank])))

theorem RefEntry.Unclaimed.conversionFailure {e : RefEntry} (h : e.MarksSound) (hl : e.leased = false) :
    e.conversionFailure.Unclaimed := by
  obtain ⟨-, h2, -, -⟩ := h
  exact ⟨⟨by simp [RefEntry.conversionFailure], by simp [RefEntry.conversionFailure, hl],
    by simp [RefEntry.conversionFailure], by simp [RefEntry.conversionFailure]⟩,
    by simp [RefEntry.conversionFailure], hl⟩

theorem RefEntry.Unclaimed.release {e : RefEntry} (h : e.MarksSound) (hl : e.leased = true) (life : BitVec 16)
    (now : Time) : (e.release life now).Unclaimed := by
  obtain ⟨-, h2, h3, h4⟩ := h
  rcases h2 hl with hs | hs
  · have hrevoke : e.revokePending = false := by by_contra hr; simp [h3 (by simpa using hr)] at hs
    have hsupply : e.supplyRevoke = false := by by_contra hr; simp [h4 (by simpa using hr)] at hs
    simp only [RefEntry.release, hs]
    split <;> exact ⟨⟨by simp, by simp, by simp [hrevoke], by simp [hsupply]⟩, by simp, rfl⟩
  · have hrevoke : e.revokePending = false := by by_contra hr; simp [h3 (by simpa using hr)] at hs
    have hsupply : e.supplyRevoke = false := by by_contra hr; simp [h4 (by simpa using hr)] at hs
    simp only [RefEntry.release, hs]
    exact ⟨⟨by simp, by simp, by simp [hrevoke], by simp [hsupply]⟩, by simp, rfl⟩

/-- The entry that an ending MEASURE names is claimed no more. -/
theorem State.ClaimsSound.endClaim {s : State} {b : Bank} (h : s.ClaimsSound b) : (s.endClaim b).Unclaimed := by
  obtain ⟨hmarks, hconv, hleased⟩ := h (s.headRef b)
  cases hs : (s.bank b).seq with
  | reference =>
    simp only [State.endClaim, hs]
    exact .conversionFailure hmarks (by simpa [hs] using hleased)
  | measuring =>
    simp only [State.endClaim, hs]
    exact .release hmarks (hleased.mpr ⟨hs, rfl⟩) _ _
  | idle | starting | posting =>
    simp only [State.endClaim, hs]
    exact ⟨hmarks, by simpa [hs] using hconv, by simpa [hs] using hleased⟩

/-- The other entry of the bank is claimed by no sequencer. -/
theorem State.ClaimsSound.other_ref {s : State} {b : Bank} (h : s.ClaimsSound b) {r : Ref} (hr : s.headRef b ≠ r) :
    (s.ref b r).Unclaimed := by
  obtain ⟨hmarks, hconv, hleased⟩ := h r
  exact ⟨hmarks, by simpa [hr] using hconv, by simpa [hr] using hleased⟩

/-- A sequencer that claims its entry in a state written with the entry. -/
theorem State.headRef_setRef_setBank {s : State} {b : Bank} {k : BankSeq} {r : Ref} {e : RefEntry}
    (hqueue : k.queue = (s.bank b).queue) : ((s.setRef b r e).setBank b k).headRef b = s.headRef b :=
  congrArg descRef (State.headDesc_of_head (by rw [State.setBank_bank_same, hqueue]))

theorem RefEntry.fault_unclaimed {e : RefEntry} (h : e.MarksSound) : e.fault.Unclaimed := by
  obtain ⟨state, leased, revoke, supply, _, _, _, _⟩ := e
  cases state <;> cases leased <;> cases revoke <;> cases supply <;>
    simp_all [RefEntry.MarksSound, RefEntry.Unclaimed, RefEntry.fault]

theorem State.enterFaulted_ref (s : State) (code : FaultCode) (addr : BitVec 16) (b : Bank) (r : Ref) :
    (s.enterFaulted code addr).ref b r =
      (if s.refs[b].noticeDue then (s.ref b r).supplyLow else s.ref b r).fault := by
  have href : (s.enterFaulted code addr).ref b r = (s.refs[b].fault).entry r := by
    simp [State.enterFaulted, State.raise, State.faultBlocks, State.faultRefs, State.ref]
  rw [href]
  cases r <;> simp only [RefPair.fault, RefPair.takeNotice, RefPair.entry, State.ref] <;> split <;> rfl

theorem State.resetBlocks_ref (s : State) (b : Bank) (r : Ref) : s.resetBlocks.ref b r = .reset := by
  cases r <;> simp [State.resetBlocks, State.reset, State.ref, RefPair.reset, RefPair.entry]

theorem State.Change.keeps_claims {s t : State} (hc : State.Change True s t) (hbanks : s.BanksSound)
    (h : ∀ b, s.ClaimsSound b) : ∀ b, t.ClaimsSound b := by
  intro c
  cases hc with
  | frame hf => exact (h c).of_eq (hf.ref c) (hf.seq c) (.inr (State.headDesc_of_head (by rw [hf.queue c])))
  | entry b r e he =>
    intro q
    obtain ⟨hmarks, hconv, hleased⟩ := h c q
    by_cases hbr : b = c ∧ r = q
    · obtain ⟨rfl, rfl⟩ := hbr
      simp only [State.setRef_ref_same]
      exact ⟨he.sound hmarks, he.converting.trans hconv, by rw [he.leased]; exact hleased⟩
    · rw [State.setRef_ref, if_neg hbr]
      exact ⟨hmarks, hconv, hleased⟩
  | monitor | halt => exact h c
  | bank b k hseq hsound hhead =>
    by_cases hbc : b = c
    · subst hbc
      refine (h b).of_eq (fun r => rfl) (by rw [State.setBank_bank_same, hseq]) ?_
      by_cases hidle : (s.bank b).seq = .idle
      · exact .inl hidle
      · refine .inr (State.headDesc_of_head ?_)
        rw [State.setBank_bank_same]
        exact hhead (hbanks b) (by rwa [hseq])
    · exact (h c).of_other hbc rfl fun r => rfl
  | lease b k e hfrom hto hqueue _ hleased hstate hmarks =>
    by_cases hbc : b = c
    · subst hbc
      intro r
      rw [State.headRef_setRef_setBank hqueue, State.setBank_bank_same, State.setBank_ref, State.setRef_ref]
      by_cases hr : s.headRef b = r
      · rw [if_pos ⟨rfl, hr⟩]
        obtain ⟨hrevoke, hsupply⟩ := hmarks (h b _).1
        refine ⟨⟨fun _ => hleased, fun _ => hstate, by simp [hrevoke], by simp [hsupply]⟩, ?_,
          by simp [hleased, hto, hr]⟩
        rcases hstate with he | he <;> simp [he, hto]
      · rw [if_neg fun hn => hr hn.2]
        obtain ⟨h1, h2, h3⟩ := (h b).other_ref hr
        exact ⟨h1, by simp [h2, hr], by simp [h3, hr]⟩
    · exact (h c).of_other hbc rfl fun r => by rw [State.setRef_ref, if_neg fun hn => hbc hn.1]
  | convert b k hfrom _ hto hqueue _ =>
    by_cases hbc : b = c
    · subst hbc
      intro r
      rw [State.headRef_setRef_setBank hqueue, State.setBank_bank_same, State.setBank_ref, State.setRef_ref]
      by_cases hr : s.headRef b = r
      · rw [if_pos ⟨rfl, hr⟩]
        exact ⟨⟨by simp [RefEntry.miss], by simp [RefEntry.miss], by simp [RefEntry.miss], by simp [RefEntry.miss]⟩,
          by simp [RefEntry.miss, hto, hr], by simp [RefEntry.miss, hto]⟩
      · rw [if_neg fun hn => hr hn.2]
        obtain ⟨h1, h2, h3⟩ := (h b).other_ref hr
        exact ⟨h1, by simp [h2, hr], by simp [h3, hr]⟩
    · exact (h c).of_other hbc rfl fun r => by rw [State.setRef_ref, if_neg fun hn => hbc hn.1]
  | finish b k _ hto _ =>
    by_cases hbc : b = c
    · subst hbc
      rw [State.claimsSound_iff_unclaimed (by simp [hto]) (by simp [hto])]
      intro r
      rw [State.setBank_ref, State.setRef_ref]
      by_cases hr : s.headRef b = r
      · rw [if_pos ⟨rfl, hr⟩]
        exact (h b).endClaim
      · rw [if_neg fun hn => hr hn.2]
        simpa using (h b).other_ref hr
    · exact (h c).of_other hbc (by simp) fun r => by rw [State.setRef_ref, if_neg fun hn => hbc hn.1]; simp
  | turn b k hfree hto _ =>
    by_cases hbc : b = c
    · subst hbc
      have hbefore := hfree trivial
      rw [State.claimsSound_iff_unclaimed]
      · have hb := h b
        rw [State.claimsSound_iff_unclaimed] at hb
        · exact hb
        · rcases hbefore with hs | ⟨hs, -⟩ <;> simp [hs]
        · rcases hbefore with hs | ⟨hs, -⟩ <;> simp [hs]
      · rcases hto with hs | hs <;> simp [hs]
      · rcases hto with hs | hs <;> simp [hs]
    · exact (h c).of_other hbc rfl fun r => rfl
  | start b k hfree hto _ =>
    obtain ⟨-, -, -, hbk, hrefs⟩ := s.enterHold_frame b
    by_cases hbc : b = c
    · subst hbc
      have hbefore := hfree trivial
      rw [State.claimsSound_iff_unclaimed (by simp [hto]) (by simp [hto])]
      have hb := h b
      rw [State.claimsSound_iff_unclaimed] at hb
      · intro r
        rw [State.setBank_ref, State.ref_of_refs hrefs]
        exact hb r
      · rcases hbefore with hs | ⟨hs, -⟩ <;> simp [hs]
      · rcases hbefore with hs | ⟨hs, -⟩ <;> simp [hs]
    · exact (h c).of_other hbc hbk fun r => State.ref_of_refs hrefs c r
  | lost _ b hseq hcontext => exact absurd ((hbanks b).2.2.1.mpr hcontext) hseq
  | fault code addr =>
    rw [State.claimsSound_iff_unclaimed (by simp [State.enterFaulted_bank, BankSeq.fault])
      (by simp [State.enterFaulted_bank, BankSeq.fault])]
    intro r
    rw [State.enterFaulted_ref]
    refine RefEntry.fault_unclaimed ?_
    obtain ⟨hmarks, -⟩ := h c r
    split
    · exact (s.ref c r).supplyLow_marks.sound hmarks
    · exact hmarks
  | reset =>
    rw [State.claimsSound_iff_unclaimed (by simp [State.resetBlocks_bank, BankSeq.reset])
      (by simp [State.resetBlocks_bank, BankSeq.reset])]
    intro r
    rw [State.resetBlocks_ref]
    exact ⟨by simp [RefEntry.MarksSound, RefEntry.reset], by simp [RefEntry.reset], rfl⟩

theorem State.Change.keeps_leases {s t : State} (hc : State.Change True s t) (h : s.LeasesSound) : t.LeasesSound := by
  obtain ⟨hbanks, hgrant, hclaims⟩ := s.leasesSound_iff.mp h
  exact t.leasesSound_iff.mpr ⟨hc.keeps_banks hbanks, hc.keeps_grant hgrant, hc.keeps_claims hbanks hclaims⟩

/-! ### The holds -/

/-- The hold set agrees with the sequencer of bank `b`. -/
def State.HolderSound (s : State) (b : Bank) : Prop :=
  ((s.holder b).isSome ↔ (s.bank b).seq.HasHold) ∧
    ∀ h, s.holder b = some h → (h.status = .waiting → (s.bank b).seq = .starting)

theorem State.holdsSound_iff (s : State) :
    s.HoldsSound ↔ s.BanksSound ∧ s.GrantSound ∧ s.sm.Sound ∧
      (s.cu.state ≠ .resetting → ∀ b, s.HolderSound b) := Iff.rfl

/-- The monitor is OFF exactly with an empty hold set and no reading. -/
theorem SupplyMonitor.Sound.off {m : SupplyMonitor} (hstate : m.state = .off) (hreading : m.reading = none)
    (hholders : ∀ b : Bank, m.holders[b] = none) : m.Sound :=
  ⟨by simp only [hstate, hholders, implies_true], by simp [hstate, hreading], fun b h hh => by simp [hholders b] at hh⟩

theorem SupplyMonitor.Sound.on {m : SupplyMonitor} (hstate : m.state ≠ .off) (hreading : m.reading ≠ none)
    {b : Bank} (hb : m.holders[b] ≠ none)
    (hstatus : ∀ (b : Bank) h, m.holders[b] = some h →
      (m.state = .watching ↔ h.status = .granted) ∧ (h.lowSeen = true → h.status = .granted)) : m.Sound :=
  ⟨by simp only [hstate, false_iff]; exact fun hn => hb (hn b), by simp [hstate, hreading], hstatus⟩

theorem SupplyMonitor.clearHolds_sound (m : SupplyMonitor) : m.clearHolds.Sound :=
  .off rfl rfl fun b => by simp [SupplyMonitor.clearHolds]

theorem SupplyMonitor.clearHolds_applyPending_sound (m : SupplyMonitor) : m.clearHolds.applyPending.Sound :=
  .off m.clearHolds_applyPending_state (by rw [SupplyMonitor.applyPending_eq]; rfl)
    fun b => by simp [SupplyMonitor.clearHolds_applyPending_holders]

theorem State.releaseHold_sound {s : State} (b : Bank) (h : s.sm.Sound) : (s.releaseHold b).sm.Sound := by
  have hcases := s.releaseHold_cases b
  by_cases hothers : ∃ c, c ≠ b ∧ (s.holder c).isSome
  · obtain ⟨c, hcb, hc⟩ := hothers
    rcases hcases with ⟨-, heq⟩ | ⟨hb, heq⟩ | ⟨hlast, -⟩
    · rwa [heq]
    · rw [heq]
      have hother : (s.setHolder b none).holder c = s.holder c := State.setHolder_holder_of_ne s (Ne.symm hcb) none
      have hon : s.sm.state ≠ .off := fun hoff => by
        have := h.1.mp hoff c
        simp [State.holder, this] at hc
      refine .on hon (fun hn => hon (h.2.1.mpr hn)) (b := c) ?_ fun i hd hhd => ?_
      · change (s.setHolder b none).holder c ≠ none
        rw [hother]
        exact Option.isSome_iff_ne_none.mp hc
      · have hhd' : (s.setHolder b none).holder i = some hd := hhd
        rw [State.setHolder_holder] at hhd'
        split at hhd'
        · cases hhd'
        · exact h.2.2 i hd hhd'
    · simp [hlast c hcb] at hc
  · rcases hcases with ⟨-, heq⟩ | ⟨hb, heq⟩ | ⟨-, heq⟩
    · rwa [heq]
    · have hlast : ∀ c, c ≠ b → s.holder c = none := fun c hc =>
        Option.isNone_iff_eq_none.mp (by simpa using fun hs => hothers ⟨c, hc, hs⟩)
      rw [State.releaseHold_of_last hb hlast]
      exact SupplyMonitor.clearHolds_applyPending_sound _
    · rw [heq]
      exact SupplyMonitor.clearHolds_applyPending_sound _

/-- 05:R85. The monitor settles from OFF, and keeps its state otherwise. -/
theorem State.enterHold_state (s : State) (b : Bank) :
    (s.enterHold b).sm.state ≠ .off ∧ ((s.enterHold b).sm.state = .watching ↔ s.sm.state = .watching) ∧
      (s.sm.Sound → (s.enterHold b).sm.reading ≠ none) := by
  unfold State.enterHold
  cases hs : s.sm.state with
  | off => exact ⟨by simp, by simp, fun _ => by simp⟩
  | settling | watching =>
    refine ⟨by simp [hs], by simp [hs], fun h => ?_⟩
    have := h.2.1
    simp only [hs] at this
    exact fun hn => absurd (this.mpr hn) (by simp)

theorem State.enterHold_sound {s : State} (b : Bank) (h : s.sm.Sound) : (s.enterHold b).sm.Sound := by
  obtain ⟨hon, hwatching, hreading⟩ := s.enterHold_state b
  obtain ⟨hd, hhd, hgranted, hlow⟩ := s.enterHold_holder_same b
  refine .on hon (hreading h) (b := b) ?_ fun c h' hh' => ?_
  · change (s.enterHold b).holder b ≠ none
    simp [hhd]
  · change (s.enterHold b).holder c = some h' at hh'
    by_cases hbc : b = c
    · subst hbc
      cases hhd.symm.trans hh'
      exact ⟨hwatching.trans hgranted.symm, hlow⟩
    · rw [State.enterHold_holder s b c hbc] at hh'
      obtain ⟨h1, h2⟩ := h.2.2 c h' hh'
      exact ⟨hwatching.trans h1, h2⟩

theorem State.HolderSound.of_eq {s t : State} {b : Bank} (h : s.HolderSound b) (hholder : t.holder b = s.holder b)
    (hseq : (t.bank b).seq = (s.bank b).seq) : t.HolderSound b := by
  simpa only [State.HolderSound, hholder, hseq] using h

/-- A change of bank `b` leaves the holders of the others. -/
theorem State.HolderSound.of_other {s u : State} {b c : Bank} {k : BankSeq} (h : s.HolderSound c) (hbc : b ≠ c)
    (hbanks : u.banks = s.banks) (hholder : u.holder c = s.holder c) : (u.setBank b k).HolderSound c :=
  h.of_eq hholder (by rw [State.setBank_bank_of_ne _ hbc, State.bank_of_banks hbanks])

/-- A sequencer with its granted hold keeps it. -/
theorem State.HolderSound.granted {s u : State} {b : Bank} {k : BankSeq} (h : s.HolderSound b)
    (hholder : u.holder b = s.holder b) (hfrom : (s.bank b).seq.HasHold) (hto : k.seq.HasHold)
    (hwait : ∀ hd, s.holder b = some hd → hd.status ≠ .waiting) : (u.setBank b k).HolderSound b := by
  rw [State.HolderSound, State.setBank_bank_same, State.setBank_holder, hholder]
  exact ⟨by simp only [h.1, hfrom, hto], fun hd hhd hw => absurd hw (hwait hd hhd)⟩

/-- A sequencer without a hold. -/
theorem State.HolderSound.none {u : State} {b : Bank} {k : BankSeq} (hholder : u.holder b = none)
    (hto : k.seq = .idle ∨ k.seq = .posting) : (u.setBank b k).HolderSound b := by
  rw [State.HolderSound, State.setBank_bank_same, State.setBank_holder, hholder]
  rcases hto with hs | hs <;> simp [hs, SeqState.HasHold]

theorem State.Change.keeps_monitor {s t : State} (hc : State.Change True s t) (hbanks : s.BanksSound)
    (h : s.sm.Sound) : t.sm.Sound := by
  cases hc with
  | frame hf => simpa only [SupplyMonitor.Sound, hf.monitor, hf.reading, hf.holders] using h
  | entry | bank | lease | convert | turn => exact h
  | monitor m hm => exact hm.sound h
  | finish b => exact State.releaseHold_sound b h
  | start b => exact State.enterHold_sound b h
  | lost _ b hseq hcontext => exact absurd ((hbanks b).2.2.1.mpr hcontext) hseq
  | fault | halt => exact SupplyMonitor.clearHolds_sound _
  | reset => exact .off rfl rfl fun b => by simp [State.resetBlocks, State.reset, SupplyMonitor.reset]

theorem State.Change.keeps_holders {s t : State} (hc : State.Change True s t) (hbanks : s.BanksSound)
    (h : s.cu.state ≠ .resetting → ∀ b, s.HolderSound b) (ht : t.cu.state ≠ .resetting) : ∀ b, t.HolderSound b := by
  intro c
  cases hc with
  | frame hf => exact (h (hf.resetting ht) c).of_eq (by simp only [State.holder, hf.holders]) (hf.seq c)
  | entry => exact h ht c
  | monitor m hm =>
    obtain ⟨hsome, hwait⟩ := h ht c
    refine ⟨(Bool.eq_iff_iff.mp (hm.holders c)).trans hsome, fun hd hhd hw => ?_⟩
    obtain ⟨hd', hhd', hw'⟩ := hm.waiting c hd hhd hw
    exact hwait hd' hhd' hw'
  | bank b k hseq =>
    refine (h ht c).of_eq rfl ?_
    rw [State.setBank_bank]
    split
    next hbc => rw [hseq, hbc]
    next => rfl
  | lease b k e hfrom hto _ _ _ _ _ =>
    by_cases hbc : b = c
    · subst hbc
      refine (h ht b).granted rfl ?_ (by simp [hto, SeqState.HasHold]) fun hd hhd hw => ?_
      · rcases hfrom with ⟨hs, -⟩ | hs <;> simp [hs, SeqState.HasHold]
      · rcases hfrom with ⟨-, hd', hhd', hg⟩ | hs
        · cases hhd'.symm.trans hhd
          simp [hg] at hw
        · exact absurd ((h ht b).2 hd hhd hw) (by simp [hs])
    · exact (h ht c).of_other hbc rfl rfl
  | convert b k hfrom hheld hto _ _ =>
    by_cases hbc : b = c
    · subst hbc
      refine (h ht b).granted rfl (by simp [hfrom, SeqState.HasHold]) (by simp [hto, SeqState.HasHold])
        fun hd hhd hw => ?_
      obtain ⟨hd', hhd', hg⟩ := hheld
      cases hhd'.symm.trans hhd
      simp [hg] at hw
    · exact (h ht c).of_other hbc rfl rfl
  | finish b k _ hto _ =>
    have hcu : s.cu.state ≠ .resetting := by simpa using ht
    by_cases hbc : b = c
    · subst hbc
      exact .none (by rw [State.setRef_holder, State.releaseHold_holder, if_pos rfl]) (.inr hto)
    · refine (h hcu c).of_other hbc (by simp) ?_
      rw [State.setRef_holder, State.releaseHold_holder, if_neg hbc]
  | turn b k hfree hto _ =>
    by_cases hbc : b = c
    · subst hbc
      have hfreed : ¬ (s.holder b).isSome := by
        rw [(h ht b).1]
        rcases hfree trivial with hs | ⟨hs, -⟩ <;> simp [hs, SeqState.HasHold]
      exact .none (Option.not_isSome_iff_eq_none.mp hfreed) hto
    · exact (h ht c).of_other hbc rfl rfl
  | start b k _ hto _ =>
    obtain ⟨hcu, -, -, hbk, -⟩ := s.enterHold_frame b
    have hs : s.cu.state ≠ .resetting := by rw [← hcu]; exact ht
    by_cases hbc : b = c
    · subst hbc
      obtain ⟨hd, hhd, -, -⟩ := s.enterHold_holder_same b
      rw [State.HolderSound, State.setBank_bank_same, State.setBank_holder, hhd]
      exact ⟨by simp [hto, SeqState.HasHold], fun _ _ _ => hto⟩
    · exact (h hs c).of_other hbc hbk (s.enterHold_holder b c hbc)
  | lost _ b hseq hcontext => exact absurd ((hbanks b).2.2.1.mpr hcontext) hseq
  | fault code addr =>
    have hholder : (s.enterFaulted code addr).holder c = none := by
      simp [State.enterFaulted, State.raise, State.faultBlocks, State.holder, SupplyMonitor.clearHolds]
    simp [State.HolderSound, hholder, State.enterFaulted_bank, BankSeq.fault, SeqState.HasHold]
  | halt => exact absurd rfl ht
  | reset =>
    have hholder : s.resetBlocks.holder c = none := by
      simp [State.resetBlocks, State.reset, State.holder, SupplyMonitor.reset]
    simp [State.HolderSound, hholder, State.resetBlocks_bank, BankSeq.reset, SeqState.HasHold]

theorem State.Change.keeps_holds {s t : State} (hc : State.Change True s t) (h : s.HoldsSound) : t.HoldsSound := by
  obtain ⟨hbanks, hgrant, hmonitor, hholders⟩ := s.holdsSound_iff.mp h
  exact t.holdsSound_iff.mpr ⟨hc.keeps_banks hbanks, hc.keeps_grant hgrant, hc.keeps_monitor hbanks hmonitor,
    fun ht => hc.keeps_holders hbanks hholders ht⟩

end Sys2Proof.Machine
end

section
/-! PROOFS. Every act of the sequencers, the monitor and the reference table is a sequence of the changes. -/
namespace Sys2Proof.Machine

open Sys2Proof

/-! ### Frames -/

/-- What leaves the banks, the entries, the monitor, the writer and the posting list alone. -/
theorem State.Frame.of_eq {s t : State} (hcu : t.cu.state = s.cu.state) (hfu : t.fu.posting = s.fu.posting)
    (hcw : t.cw = s.cw) (hbanks : t.banks = s.banks) (hrefs : ∀ b r, t.ref b r = s.ref b r) (hsm : t.sm = s.sm) :
    s.Frame t where
  resetting := by rw [hcu]; exact id
  grant h := h.of_seq hcw hfu fun b => by rw [State.bank_of_banks hbanks]; exact id
  queue b := by rw [State.bank_of_banks hbanks]
  seq b := by rw [State.bank_of_banks hbanks]
  context b := by rw [State.bank_of_banks hbanks]
  ref := hrefs
  monitor := by rw [hsm]
  reading := by rw [hsm]
  holders := by rw [hsm]

theorem State.Frame.trans {s t u : State} (h : s.Frame t) (k : t.Frame u) : s.Frame u where
  resetting := h.resetting ∘ k.resetting
  grant := k.grant ∘ h.grant
  queue b := (k.queue b).trans (h.queue b)
  seq b := (k.seq b).trans (h.seq b)
  context b := (k.context b).trans (h.context b)
  ref b r := (k.ref b r).trans (h.ref b r)
  monitor := k.monitor.trans h.monitor
  reading := k.reading.trans h.reading
  holders := k.holders.trans h.holders

theorem State.Changes.of {G : Prop} {s t : State} (h : State.Change G s t) : State.Changes G s t := .single h

theorem State.Changes.refl {G : Prop} (s : State) : State.Changes G s s := Relation.ReflTransGen.refl

theorem State.Changes.trans {G : Prop} {s t u : State} (h : State.Changes G s t) (k : State.Changes G t u) :
    State.Changes G s u := Relation.ReflTransGen.trans h k

theorem State.Changes.frame {G : Prop} {s t : State} (h : s.Frame t) : State.Changes G s t := .of (.frame h)

/-- A fold whose steps are changes wherever an invariant holds that they keep. -/
theorem State.Changes.foldl {G : Prop} {α : Type} {I : State → Prop} {f : State → α → State}
    (h : ∀ s a, I s → State.Changes G s (f s a) ∧ I (f s a)) (l : List α) :
    ∀ s, I s → State.Changes G s (l.foldl f s) := by
  induction l with
  | nil => exact fun s _ => .refl s
  | cons a l ih =>
    intro s hs
    obtain ⟨hc, hI⟩ := h s a hs
    exact hc.trans (ih _ hI)

theorem State.Changes.foldl_all {G : Prop} {α : Type} {f : State → α → State}
    (h : ∀ s a, State.Changes G s (f s a)) (l : List α) (s : State) : State.Changes G s (l.foldl f s) :=
  State.Changes.foldl (I := fun _ => True) (fun s a _ => ⟨h s a, trivial⟩) l s trivial

variable {G : Prop}

/-! ### The reference table -/

theorem State.supplyLowNotice_changes (s : State) (b : Bank) : State.Changes G s (s.supplyLowNotice b) := by
  have h : s.supplyLowNotice b =
      (s.setRef b .a (s.ref b .a).supplyLow).setRef b .b
        ((s.setRef b .a (s.ref b .a).supplyLow).ref b .b).supplyLow := by
    rw [State.supplyLowNotice, State.setRef_ref, if_neg (by simp)]
  rw [h]
  exact (State.Changes.of (.entry s b .a _ (RefEntry.supplyLow_marks _))).trans
    (.of (.entry _ b .b _ (RefEntry.supplyLow_marks _)))

theorem State.draw_frame (s : State) (n : Nat) : s.Frame { s with draws := n } :=
  .of_eq rfl rfl rfl rfl (fun _ _ => rfl) rfl

theorem State.sendNotice_changes (s : State) (b : Bank) : State.Changes G s (s.sendNotice b) := by
  refine (State.Changes.frame (s.draw_frame (s.draws + 1))).trans ?_
  rcases s.sendNotice_cases b with h | h <;> rw [h]
  · exact State.supplyLowNotice_changes _ b
  · exact .frame (.of_eq rfl rfl rfl rfl (State.holdNotice_ref _ b) rfl)

theorem State.deliverNotice_changes (s : State) (b : Bank) : State.Changes G s (s.deliverNotice b) := by
  rw [State.deliverNotice_eq]
  split
  · have hframe : s.Frame { s with refs := s.refs.set b { s.refs[b] with noticeDue := false } } := by
      refine .of_eq rfl rfl rfl rfl (fun c r => ?_) rfl
      by_cases hbc : b = c
      · subst hbc
        cases r <;> simp [State.ref, RefPair.entry]
      · have hval : b.val ≠ c.val := fun e => hbc (Fin.ext e)
        simp [State.ref, hval]
    exact (State.Changes.frame hframe).trans (State.supplyLowNotice_changes _ b)
  · exact .refl s

theorem State.invalidateNamed_changes (s : State) (b : Bank) (names : Ref → Bool) :
    State.Changes G s (s.invalidateNamed b names) := by
  have hmarks (e : RefEntry) (r : Ref) : e.Marks (if names r then e.invalidate else e) := by
    split
    · exact e.invalidate_marks
    · exact .refl e
  refine (State.Changes.of (.entry s b .a _ (hmarks _ .a))).trans (.of (.entry _ b .b _ ?_))
  rw [State.setRef_ref, if_neg (by simp)]
  exact hmarks _ .b

/-! ### The monitor -/

theorem State.clearLowSeen_evolves (s : State) (b : Bank) : s.sm.Evolves (s.clearLowSeen b).sm := by
  unfold State.clearLowSeen
  split
  next => exact ⟨id, fun _ => rfl, fun c h' hh' hw => ⟨h', hh', hw⟩⟩
  next h hh =>
    have hget (c : Bank) : (s.setHolder b (some { h with lowSeen := s.readsLow && h.status == .granted })).holder c =
        if b = c then some { h with lowSeen := s.readsLow && h.status == .granted } else s.holder c :=
      State.setHolder_holder s b c _
    have hsame (c : Bank) (d : Holder)
        (hd : (s.setHolder b (some { h with lowSeen := s.readsLow && h.status == .granted })).holder c = some d) :
        ∃ d', s.holder c = some d' ∧ d'.status = d.status ∧
          (d.lowSeen = true → d'.lowSeen = true ∨ d.status = .granted) := by
      rw [hget] at hd
      split at hd
      next hbc =>
        cases hd
        exact ⟨h, hbc ▸ hh, rfl, fun hl => .inr (by simp at hl; exact hl.2)⟩
      next => exact ⟨d, hd, rfl, .inl⟩
    have hisSome (c : Bank) :
        ((s.setHolder b (some { h with lowSeen := s.readsLow && h.status == .granted })).holder c).isSome =
          (s.holder c).isSome := by
      rw [hget]
      split
      next hbc => rw [← hbc, hh]; rfl
      next => rfl
    refine ⟨fun hs => ⟨?_, hs.2.1, fun c d hd => ?_⟩, hisSome, fun c d hd hw => ?_⟩
    · refine hs.1.trans (forall_congr' fun c => ?_)
      have := hisSome c
      simp only [← Option.not_isSome_iff_eq_none]
      exact not_congr (Bool.eq_iff_iff.mp this.symm)
    · obtain ⟨d', hd', hstatus, hlow⟩ := hsame c d hd
      obtain ⟨h1, h2⟩ := hs.2.2 c d' hd'
      rw [hstatus] at h1 h2
      exact ⟨h1, fun hl => (hlow hl).elim h2 id⟩
    · obtain ⟨d', hd', hstatus, -⟩ := hsame c d hd
      exact ⟨d', hd', hstatus.trans hw⟩

theorem State.clearLowSeen_eq (s : State) (b : Bank) : s.clearLowSeen b = { s with sm := (s.clearLowSeen b).sm } := by
  unfold State.clearLowSeen
  split <;> rfl

theorem State.clearLowSeen_changes (s : State) (b : Bank) : State.Changes G s (s.clearLowSeen b) := by
  rw [State.clearLowSeen_eq]
  exact .of (.monitor s _ (s.clearLowSeen_evolves b))

theorem State.setCell_changes (s : State) (b : Bank) (c : Cell) : State.Changes G s (s.setCell b c) :=
  .frame (.of_eq rfl rfl rfl rfl (fun _ _ => rfl) rfl)

theorem State.startReferenceWindow_changes (s : State) (b : Bank) : State.Changes G s (s.startReferenceWindow b) :=
  (s.setCell_changes b _).trans (State.clearLowSeen_changes _ b)

theorem State.startSampleWindow_changes (s : State) (b : Bank) : State.Changes G s (s.startSampleWindow b) := by
  unfold State.startSampleWindow
  split
  · exact .refl s
  · exact (s.setCell_changes b _).trans (State.clearLowSeen_changes _ b)

/-! ### Contexts -/

/-- A context changed but for its record. -/
theorem State.setContext_change {s : State} {b : Bank} {x y : Context} (hx : (s.bank b).context = some x)
    (hrec : y.record.isSome = x.record.isSome) : State.Changes G s (s.setContext b y) := by
  refine .of (.bank s b _ rfl (fun h => ?_) fun _ _ => rfl)
  obtain ⟨hlen, hqueue, hctx, hrecord⟩ := h
  refine ⟨hlen, hqueue, by simpa [hx] using hctx, fun z hz => ?_⟩
  cases hz
  rw [hrec]
  exact hrecord x hx

theorem State.flushQueue_changes (s : State) (b : Bank) : State.Changes G s (s.flushQueue b) := by
  have hlen : (flushBehind (s.bank b).queue).length = (s.bank b).queue.length := by
    cases (s.bank b).queue <;> simp [flushBehind]
  have hnil : flushBehind (s.bank b).queue = [] ↔ (s.bank b).queue = [] := by
    cases (s.bank b).queue <;> simp [flushBehind]
  have hhead : (flushBehind (s.bank b).queue).head? = (s.bank b).queue.head? := by
    cases (s.bank b).queue <;> rfl
  refine .of (.bank s b _ rfl (fun ⟨h1, h2, h3, h4⟩ => ⟨?_, ?_, h3, h4⟩) fun _ _ => hhead)
  · exact hlen ▸ h1
  · exact h2.trans hnil.symm

theorem BankSeq.Sound.no_record {k : BankSeq} {x : Context} (h : k.Sound) (hx : k.context = some x)
    (hs : k.seq ≠ .posting) : x.record.isSome = false := by
  have := (h.2.2.2 x hx).not.mp hs
  simpa using this

/-- Another active state with a context that has no record either. -/
theorem BankSeq.Sound.move {k : BankSeq} {x y : Context} {q : SeqState} (h : k.Sound) (hx : k.context = some x)
    (hfrom : k.seq ≠ .idle) (hfrom' : k.seq ≠ .posting) (hto : q ≠ .idle) (hto' : q ≠ .posting)
    (hrec : y.record = x.record) : ({ k with seq := q, context := some y } : BankSeq).Sound :=
  .active h.1 (h.queue_of_seq hfrom) hto rfl (by simp [hto', hrec, h.no_record hx hfrom'])

/-- POSTING with a formed record. -/
theorem BankSeq.Sound.post {k : BankSeq} {y : Context} (h : k.Sound) (hfrom : k.seq ≠ .idle)
    (hrec : y.record.isSome = true) : ({ k with seq := .posting, context := some y } : BankSeq).Sound :=
  .active h.1 (h.queue_of_seq hfrom) (by simp) rfl (by simp [hrec])

/-! ### Ends and aborts -/

section Finishes

variable {s : State} {b : Bank} {k : BankSeq} {src : Source} {e : RefEntry}

/-- An end, with the skipped count that its record takes. -/
theorem State.Changes.finish (hfrom : (s.bank b).seq.HasHold) (hto : k.seq = .posting)
    (hsound : (s.bank b).Sound → k.Sound) (he : e = s.endClaim b) :
    State.Changes G s ((((s.releaseHold b).claimSkipped src).setRef b (s.headRef b) e).setBank b k) := by
  subst he
  refine (State.Changes.of (.finish s b k hfrom hto hsound)).trans (.frame ?_)
  exact .of_eq (by simp) (by simp) (by simp) (by simp [State.setBank]) (fun c r => by simp [State.setRef_ref]) (by simp)

/-- An end that stops the cell too. -/
theorem State.Changes.finish_stop {c : Cell} (hfrom : (s.bank b).seq.HasHold) (hto : k.seq = .posting)
    (hsound : (s.bank b).Sound → k.Sound) (he : e = s.endClaim b) :
    State.Changes G s
      (((((s.releaseHold b).claimSkipped src).setCell b c).setRef b (s.headRef b) e).setBank b k) :=
  (State.Changes.finish (src := src) hfrom hto hsound he).trans
    (.frame (.of_eq rfl rfl rfl rfl (fun _ _ => rfl) rfl))

/-- An end that leaves its entry alone. -/
theorem State.Changes.finish_unclaimed (hfrom : (s.bank b).seq.HasHold) (hto : k.seq = .posting)
    (hsound : (s.bank b).Sound → k.Sound) (he : s.endClaim b = s.ref b (s.headRef b)) :
    State.Changes G s (((s.releaseHold b).claimSkipped src).setBank b k) := by
  refine (State.Changes.finish (src := src) hfrom hto hsound rfl).trans (.frame ?_)
  refine .of_eq rfl rfl rfl rfl (fun c r => ?_) rfl
  rw [he, State.setBank_ref, State.setBank_ref, State.setRef_ref]
  split
  next h => rw [← h.1, h.2]; simp
  next => rfl

end Finishes

section Ends

variable {s : State} {b : Bank} {x : Context}

theorem State.posting_sound {st : RecordStatus} {rs : FailureReason} {ch : List ChannelEntry} (y : Context)
    (hfrom : (s.bank b).seq ≠ .idle) (h : (s.bank b).Sound) : (s.posting b y st rs ch).Sound := h.post hfrom rfl

theorem SeqState.HasHold.not_idle {q : SeqState} (h : q.HasHold) : q ≠ .idle := by
  rintro rfl
  exact h

theorem State.finish_changes {k : MeasureEnd} (hx : (s.bank b).context = some x)
    (hfits : k.fits (s.bank b).seq = true) : State.Changes G s (s.finish b k) := by
  cases k with
  | complete =>
    have hseq : (s.bank b).seq = .measuring := by simpa [MeasureEnd.fits] using hfits
    have hhold : (s.bank b).seq.HasHold := by simp [hseq, SeqState.HasHold]
    rw [State.finish, State.endMeasure_eq hx]
    exact .finish hhold rfl (State.posting_sound _ hhold.not_idle) (by simp only [State.endClaim, hseq]; rfl)
  | failed rs =>
    have hseq : (s.bank b).seq = .reference := by simpa [MeasureEnd.fits] using hfits
    have hhold : (s.bank b).seq.HasHold := by simp [hseq, SeqState.HasHold]
    rw [State.finish, State.endFailed_eq hx]
    exact .finish hhold rfl (State.posting_sound _ hhold.not_idle) (by simp only [State.endClaim, hseq]; rfl)

theorem State.sendEnd_changes {k : MeasureEnd} (hx : (s.bank b).context = some x)
    (hfits : k.fits (s.bank b).seq = true) : State.Changes G s (s.sendEnd b k) := by
  refine (State.Changes.frame (s.draw_frame (s.draws + 1))).trans ?_
  rcases s.sendEnd_cases b k with h | h <;> rw [h]
  · exact State.finish_changes (s := { s with draws := s.draws + 1 }) hx hfits
  · rw [State.mapContext_of_context (s := { s with draws := s.draws + 1 }) hx]
    exact State.setContext_change (s := { s with draws := s.draws + 1 }) hx rfl

theorem State.deliverEnd_changes (s : State) (b : Bank) : State.Changes G s (s.deliverEnd b) := by
  cases hk : s.endInFlight b with
  | none =>
    rw [State.deliverEnd_none hk]
    exact .refl s
  | some k =>
    obtain ⟨x, hx, -, -, hfits⟩ := State.endInFlight_eq_some.mp hk
    rw [State.deliverEnd_some hk, State.mapContext_of_context hx]
    have hctx := s.setContext_context b { x with endDue := none }
    have hseq : ((s.setContext b { x with endDue := none }).bank b).seq = (s.bank b).seq := by simp [State.setContext]
    have hfinish := State.finish_changes (G := G) hctx (by rw [hseq]; exact hfits)
    have hmark := State.setContext_change (G := G) (y := { x with endDue := none }) hx rfl
    exact hmark.trans hfinish

theorem State.mapContext_of_no_context (hx : (s.bank b).context = none) (f : Context → Context) :
    s.mapContext b f = s := by
  have hself : { s.bank b with context := (s.bank b).context.map f } = s.bank b := by
    rw [hx]
    exact congrArg (fun c => { s.bank b with context := c }) hx.symm
  rw [State.mapContext_eq, hself, State.setBank_self]

theorem State.dropHold_of_no_context (hx : (s.bank b).context = none) : s.dropHold b = s.releaseHold b :=
  State.mapContext_of_no_context (by simpa using hx) _

/-- Without a context an abort forms no record. -/
theorem State.abortActive_lost (hseq : (s.bank b).seq.HasHold) (hx : (s.bank b).context = none) :
    State.Changes G s (s.abortActive b) := by
  have hbanks : (s.abortActive b).banks = (s.flushQueue b).banks := by
    cases hs : (s.bank b).seq with
    | idle | posting => simp [hs, SeqState.HasHold] at hseq
    | starting =>
      simp only [State.abortActive, hs, State.abortStarting, State.dropHold_of_no_context hx]
      rw [State.formMeasure_of_no_context (by simpa using hx)]
      simp [State.flushQueue, State.setBank]
    | reference =>
      have hx' : (((s.stopCell b).failConversion b).bank b).context = none := by simpa using hx
      simp only [State.abortActive, hs, State.abortReference, State.dropHold_of_no_context hx']
      rw [State.formMeasure_of_no_context (by simpa using hx)]
      simp [State.flushQueue, State.setBank]
    | measuring =>
      have hx' : ((s.stopCell b).bank b).context = none := by simpa using hx
      have hentry : (s.stopCell b).abortEntry b = s.stopCell b := State.mapContext_of_no_context hx' _
      have hdrop (e : RefEntry) (f : Context → Context) :
          ((s.stopCell b).setRef b (descRef ((s.stopCell b).headDesc b)) e).mapContext b f =
            (s.stopCell b).setRef b (descRef ((s.stopCell b).headDesc b)) e :=
        State.mapContext_of_no_context (by simpa using hx) f
      simp only [State.abortActive, hs, State.abortMeasuring, hentry, State.dropLease, hdrop]
      rw [State.dropHold_of_no_context (by simpa using hx), State.formMeasure_of_no_context (by simpa using hx)]
      simp [State.flushQueue, State.setBank]
  refine .of (.lost s _ b hseq.not_idle hx fun hg => hg.of_seq (by simp) (by simp) fun c hc => ?_)
  rw [State.bank_of_banks hbanks, State.flushQueue, State.setBank_bank]
  split
  next hbc => exact hbc ▸ hc
  next => exact hc

theorem State.abortActive_changes (s : State) (b : Bank) : State.Changes G s (s.abortActive b) := by
  by_cases hseq : (s.bank b).seq.HasHold
  · cases hx : (s.bank b).context with
    | none => exact State.abortActive_lost hseq hx
    | some x =>
      cases hs : (s.bank b).seq with
      | idle | posting => simp [hs, SeqState.HasHold] at hseq
      | starting =>
        simp only [State.abortActive, hs]
        refine State.Changes.trans ?_ (State.flushQueue_changes _ b)
        rw [State.abortStarting_eq hx]
        exact .finish_unclaimed hseq rfl (State.posting_sound _ hseq.not_idle) (by simp only [State.endClaim, hs])
      | reference =>
        simp only [State.abortActive, hs]
        refine State.Changes.trans ?_ (State.flushQueue_changes _ b)
        rw [State.abortReference_eq hx]
        exact .finish_stop hseq rfl (State.posting_sound _ hseq.not_idle) (by simp only [State.endClaim, hs]; rfl)
      | measuring =>
        simp only [State.abortActive, hs]
        refine State.Changes.trans ?_ (State.flushQueue_changes _ b)
        rw [State.abortMeasuring_eq hx]
        exact .finish_stop hseq rfl (State.posting_sound _ hseq.not_idle) (by simp only [State.endClaim, hs]; rfl)
  · cases hs : (s.bank b).seq with
    | idle =>
      simp only [State.abortActive, hs]
      exact .refl s
    | posting =>
      simp only [State.abortActive, hs]
      exact s.flushQueue_changes b
    | starting | reference | measuring => simp [hs, SeqState.HasHold] at hseq

theorem State.abortBank_changes (s : State) (b : Bank) : State.Changes G s (s.abortBank b) :=
  (s.deliverEnd_changes b).trans (State.abortActive_changes _ b)

end Ends

end Sys2Proof.Machine
end

section
/-! PROOFS. The grant, the outcomes and the take of a queue head as sequences of the changes. -/
namespace Sys2Proof.Machine

open Sys2Proof

variable {G : Prop}

section Sequencer

variable {s : State} {b : Bank} {x : Context}

/-! ### The grant and the lease (03:R54) -/

theorem State.lost_of_seq {t : State} (hseq : (s.bank b).seq.HasHold) (hx : (s.bank b).context = none)
    (hcw : t.cw = s.cw) (hfu : t.fu = s.fu) (hbanks : ∀ c, b ≠ c → t.bank c = s.bank c) : State.Changes G s t := by
  refine .of (.lost s t b hseq.not_idle hx fun hg => hg.of_seq hcw (congrArg _ hfu) fun c hc => ?_)
  by_cases hbc : b = c
  · subst hbc
    simp [hc, SeqState.HasHold] at hseq
  · rwa [hbanks c hbc]

/-- 02:R23. Outside CONVERTING an entry has no mark. -/
theorem RefEntry.MarksSound.unmarked {e : RefEntry} (h : e.MarksSound) (hs : e.state ≠ .converting) :
    e.revokePending = false ∧ e.supplyRevoke = false := by
  obtain ⟨-, -, h3, h4⟩ := h
  exact ⟨Bool.eq_false_iff.mpr fun hr => hs (h3 hr), Bool.eq_false_iff.mpr fun hr => hs (h4 hr)⟩

theorem State.requestLease_bank_of_ne {c : Bank} (hbc : b ≠ c) : (s.requestLease b).bank c = s.bank c := by
  unfold State.requestLease
  dsimp only
  split
  · simp [State.gainLease, State.beginEntry, State.mapContext_bank_of_ne _ hbc, State.setSeq_bank_of_ne _ hbc]
  · simp [State.mapContext_bank_of_ne _ hbc, State.setSeq_bank_of_ne _ hbc]

theorem State.takeGrant_changes (hheld : ∃ h, s.holder b = some h ∧ h.status = .granted) :
    State.Changes G s (s.takeGrant b) := by
  by_cases hseq : (s.bank b).seq = .starting
  · cases hx : (s.bank b).context with
    | none =>
      refine State.lost_of_seq (by simp [hseq, SeqState.HasHold]) hx (by simp) (by simp) fun c hbc => ?_
      rw [State.takeGrant, if_pos hseq, State.requestLease_bank_of_ne hbc, State.mapContext_bank_of_ne _ hbc]
    | some x =>
      cases hhit : (s.ref b (descRef (s.headDesc b))).isHit (descNRef (s.headDesc b)) (descForceRef (s.headDesc b))
          (s.bank b).lifetime s.now with
      | true =>
        obtain ⟨hvalid, -⟩ : (s.ref b (s.headRef b)).state = .valid ∧ (s.ref b (s.headRef b)).leased = false := by
          simp only [RefEntry.isHit, Bool.and_eq_true, beq_iff_eq, Bool.not_eq_true'] at hhit
          obtain ⟨⟨⟨⟨hv, hl⟩, -⟩, -⟩, -⟩ := hhit
          exact ⟨hv, hl⟩
        rw [State.takeGrant_of_hit hseq hx hhit]
        refine State.Changes.trans ?_ (State.startSampleWindow_changes _ b)
        refine .of (.lease s b _ _ (.inl ⟨hseq, hheld⟩) rfl rfl (fun h => ?_) rfl (.inl hvalid) fun hm => ?_)
        · exact h.move hx (by simp [hseq]) (by simp [hseq]) (by simp) (by simp) rfl
        · exact hm.unmarked (by simp [hvalid])
      | false =>
        rw [State.takeGrant_of_miss hseq hx hhit]
        refine State.Changes.trans ?_ (State.startReferenceWindow_changes _ b)
        refine .of (.convert s b _ hseq hheld rfl rfl fun h => ?_)
        exact h.move hx (by simp [hseq]) (by simp [hseq]) (by simp) (by simp) rfl
  · rw [State.takeGrant_of_not_starting hseq]
    exact .refl s

theorem State.sendGrant_changes (hheld : ∃ h, s.holder b = some h ∧ h.status = .granted) :
    State.Changes G s (s.sendGrant b) := by
  refine (State.Changes.frame (s.draw_frame (s.draws + 1))).trans ?_
  rcases s.sendGrant_cases b with h | h <;> rw [h]
  · exact State.takeGrant_changes (s := { s with draws := s.draws + 1 }) hheld
  · exact .refl _

theorem State.grantHolder_changes (hheld : ∃ h, s.holder b = some h ∧ h.status = .granted) :
    State.Changes G s (s.grantHolder b) := by
  unfold State.grantHolder
  split
  · exact (s.sendNotice_changes b).trans (State.sendGrant_changes (by simpa using hheld))
  · exact State.sendGrant_changes hheld

theorem State.holdGranted_iff : s.holdGranted b = true ↔ ∃ h, s.holder b = some h ∧ h.status = .granted := by
  unfold State.holdGranted
  cases s.holder b <;> simp

theorem State.deliverGrant_changes (s : State) (b : Bank) : State.Changes G s (s.deliverGrant b) := by
  unfold State.deliverGrant
  split
  next h =>
    simp only [State.grantDue, Bool.and_eq_true] at h
    exact State.takeGrant_changes (State.holdGranted_iff.mp h.2)
  next => exact .refl s

/-! ### The outcomes (03 section 3.5) -/

theorem State.setContext_sendEnd_changes {y : Context} {k : MeasureEnd} (hx : (s.bank b).context = some x)
    (hrec : y.record.isSome = x.record.isSome) (hfits : k.fits (s.bank b).seq = true) :
    State.Changes G s ((s.setContext b y).sendEnd b k) := by
  refine (State.setContext_change hx hrec).trans (State.sendEnd_changes (State.setContext_context s b y) ?_)
  rw [State.setContext, State.setBank_bank_same]
  exact hfits

theorem State.setContext_startSample_changes {y : Context} (hx : (s.bank b).context = some x)
    (hrec : y.record.isSome = x.record.isSome) : State.Changes G s ((s.setContext b y).startSampleWindow b) :=
  (State.setContext_change hx hrec).trans (State.startSampleWindow_changes _ b)

theorem State.takeRefDone_changes (hseq : (s.bank b).seq = .reference) (g : BitVec 24) :
    State.Changes G s (s.takeRefDone b g) := by
  cases hx : (s.bank b).context with
  | none =>
    simp only [State.takeRefDone, hx]
    exact .refl s
  | some x =>
    cases hlow : s.lowSeen b with
    | false =>
      rw [State.takeRefDone_of_clean hx hlow]
      refine State.Changes.trans ?_ (State.startSampleWindow_changes _ b)
      refine .of (.lease s b _ _ (.inr hseq) rfl rfl (fun h => ?_) rfl ?_ fun _ => ⟨rfl, rfl⟩)
      · exact h.move hx (by simp [hseq]) (by simp [hseq]) (by simp) (by simp) rfl
      · simp only [RefEntry.publish]
        split <;> simp
    | true =>
      by_cases hfirst : x.supplyFailures = 0
      · rw [State.takeRefDone_of_retry hx hlow hfirst]
        refine State.Changes.trans ?_ (State.startReferenceWindow_changes _ b)
        exact (State.Changes.of (.entry s b _ _ (RefEntry.retry_marks _))).trans
          (State.setContext_change (s := s.setRef b _ _) hx rfl)
      · rw [State.takeRefDone_of_failure hx hlow hfirst]
        exact State.setContext_sendEnd_changes hx rfl (by simp [MeasureEnd.fits, hseq])

theorem State.takeRefTimeout_changes (hseq : (s.bank b).seq = .reference) :
    State.Changes G s (s.takeRefTimeout b) := by
  cases hx : (s.bank b).context with
  | none =>
    refine State.lost_of_seq (by simp [hseq, SeqState.HasHold]) hx (by simp) (by simp) fun c hbc => ?_
    rw [State.takeRefTimeout, State.mapContext_of_no_context hx]
    rcases s.sendEnd_cases b (.failed .timeout) with h | h <;> rw [h]
    · have hx' : (({ s with draws := s.draws + 1 }.failConversion b).bank b).context = none := by
        rw [State.bank_of_banks (State.failConversion_frame _ b).2.2.2.1]
        exact hx
      rw [State.finish, State.endFailed, State.dropHold_of_no_context hx',
        State.formMeasure_of_no_context (by simpa using hx')]
      simp only [State.releaseHold_frame, State.failConversion_frame]
      rfl
    · exact State.mapContext_bank_of_ne _ hbc _
  | some x =>
    rw [State.takeRefTimeout_eq hx]
    exact State.setContext_sendEnd_changes hx rfl (by simp [MeasureEnd.fits, hseq])

theorem State.takeSample_changes (hseq : (s.bank b).seq = .measuring) (o : Outcome) :
    State.Changes G s (s.takeSample b o) := by
  cases hx : (s.bank b).context with
  | none =>
    simp only [State.takeSample, hx]
    exact .refl s
  | some x =>
    by_cases hmore : x.sampleNo < descSamples (s.headDesc b)
    · rw [State.takeSample_of_next hx o hmore]
      exact State.setContext_startSample_changes hx rfl
    · by_cases hnext : x.entryPos + 1 < descChannelCount (s.headDesc b)
      · rw [State.takeSample_of_entry hx o (Nat.le_of_not_lt hmore) hnext]
        exact State.setContext_startSample_changes hx rfl
      · rw [State.takeSample_of_end hx o (Nat.le_of_not_lt hmore) (Nat.le_of_not_lt hnext)]
        exact State.setContext_sendEnd_changes hx rfl (by simp [MeasureEnd.fits, hseq])

theorem State.takeOutcome_changes (s : State) (b : Bank) (o : Outcome) : State.Changes G s (s.takeOutcome b o) := by
  cases hseq : (s.bank b).seq with
  | reference =>
    simp only [State.takeOutcome, hseq]
    cases o with
    | refDone g => exact State.takeRefDone_changes hseq g
    | refTimeout => exact State.takeRefTimeout_changes hseq
    | good | openCircuit | overflow => exact .refl s
  | measuring =>
    simp only [State.takeOutcome, hseq]
    cases o with
    | refDone | refTimeout => exact .refl s
    | good | openCircuit | overflow => exact State.takeSample_changes hseq _
  | idle | starting | posting =>
    simp only [State.takeOutcome, hseq]
    exact .refl s

theorem State.endWindowWith_changes (s : State) (b : Bank) (c : Cell) (o : Outcome) :
    State.Changes G s (s.endWindowWith b c o) := (s.setCell_changes b c).trans (State.takeOutcome_changes _ b o)

/-! ### The take (03 section 3.4) -/

theorem State.enterHold_setBank (s : State) (b : Bank) (k : BankSeq) :
    (s.setBank b k).enterHold b = (s.enterHold b).setBank b k := by
  unfold State.enterHold
  cases hs : s.sm.state <;> simp only [State.setBank_sm, hs] <;> rfl

theorem State.claimSkipped_changes (s : State) (src : Source) : State.Changes G s (s.claimSkipped src) :=
  .frame (.of_eq (by simp) (by simp) (by simp) (by simp) (by simp) (by simp))

/-- A sequencer without an active MEASURE takes the head of the queue it now has. -/
theorem State.takeHead_changes {k : BankSeq} (hnil : k.queue ≠ [])
    (hfree : G → (s.bank b).seq = .idle ∨ (s.bank b).seq = .posting ∧ s.cw.granted = none)
    (hlen : (s.bank b).Sound → k.queue.length ≤ 4) : State.Changes G s ((s.setBank b k).takeHead b) := by
  obtain ⟨q, qs, hq⟩ := List.exists_cons_of_ne_nil hnil
  have hq' : ((s.setBank b k).bank b).queue = q :: qs := by rw [State.setBank_bank_same, hq]
  have hformed (k' : BankSeq) (r : Record) (now : Time) (src : Source) (hk' : k'.queue = k.queue) :
      State.Changes G s ((s.claimSkipped src).setBank b (k'.formed now r)) := by
    refine (s.claimSkipped_changes src).trans (.of (.turn _ b _ (by simpa using hfree) (.inr rfl) fun h => ?_))
    exact .active (by rw [← hk'] at hlen; exact hlen (by simpa using h)) (by rw [← hk'] at hnil; exact hnil)
      (by simp [BankSeq.formed]) rfl (by simp [BankSeq.formed])
  cases hf : q.flushed with
  | true =>
    rw [State.takeHead_of_flushed hq' hf, State.claimSkipped_setBank, State.setBank_setBank,
      State.setBank_bank_same]
    exact hformed k _ _ _ rfl
  | false =>
    by_cases hk : descKind q.desc = Kind.setBank.code
    · rw [State.takeHead_of_setBank hq' hf hk, State.setBank_setBank, State.setBank_bank_same]
      exact hformed (k.applySetBank q.desc) _ _ (.ring 0) rfl
    · cases he : k.enabled with
      | false =>
        rw [State.takeHead_of_disabled hq' hf hk (by rw [State.setBank_bank_same, he]), State.claimSkipped_setBank,
          State.setBank_setBank, State.setBank_bank_same]
        exact hformed k _ _ _ rfl
      | true =>
        rw [State.takeHead_of_enabled hq' hf hk (by rw [State.setBank_bank_same, he]), State.setBank_setBank,
          State.setBank_bank_same]
        refine (s.deliverNotice_changes b).trans ?_
        have hstart : State.Changes G (s.deliverNotice b)
            (((s.deliverNotice b).setBank b (k.started s.now)).enterHold b) := by
          rw [State.enterHold_setBank]
          refine .of (.start _ b _ hfree rfl fun h => ?_)
          exact .active (hlen h) hnil (by simp [BankSeq.started]) rfl
            (by simp [BankSeq.started, newContext])
        change State.Changes G _ (((s.deliverNotice b).setBank b (k.started s.now)).addHolder b)
        rw [State.addHolder_eq]
        split
        next hw =>
          refine hstart.trans (State.grantHolder_changes ?_)
          obtain ⟨h, hh, hg, -⟩ := State.enterHold_holder_same ((s.deliverNotice b).setBank b (k.started s.now)) b
          exact ⟨h, hh, hg.mpr hw⟩
        next => exact hstart

end Sequencer

end Sys2Proof.Machine
end

section
/-! PROOFS. The admission, the settle end, the moves of AVDD, the tick and the posting as sequences of the changes. -/
namespace Sys2Proof.Machine

open Sys2Proof

variable {G : Prop}

/-! ### The admission (03 section 3.2) -/

/-- A descriptor joins a queue that has room, and an IDLE sequencer takes it at once. -/
theorem State.join_changes {s : State} {b : Bank} {k : BankSeq} {q : QueueEntry}
    (hlen : (s.bank b).queue.length < 4) (hseq : k.seq = (s.bank b).seq) (hctx : k.context = (s.bank b).context)
    (hqueue : k.queue = (s.bank b).queue ++ [q]) :
    State.Changes G s (if (s.bank b).seq = .idle then (s.setBank b k).takeHead b else s.setBank b k) := by
  have hlen' : k.queue.length ≤ 4 := by simp [hqueue]; omega
  split
  next hidle => exact State.takeHead_changes (by simp [hqueue]) (fun _ => .inl hidle) fun _ => hlen'
  next hidle =>
    refine .of (.bank s b k hseq (fun h => ?_) fun h _ => ?_)
    · obtain ⟨x, hx⟩ := h.context_of_seq hidle
      exact .active hlen' (by simp [hqueue]) (by rwa [hseq]) (hctx.trans hx) (by rw [hseq]; exact h.2.2.2 x hx)
    · obtain ⟨q', qs, hq⟩ := List.exists_cons_of_ne_nil (h.queue_of_seq hidle)
      simp [hqueue, hq]

theorem State.admitCandidate_changes {s : State} {b : Bank} {c : Candidate} (hc : s.grantable b = some c) :
    State.Changes G s (s.admitCandidate b c) := by
  obtain ⟨-, hlen, -⟩ := State.grantable_eq_some.mp hc
  unfold State.admitCandidate
  cases c with
  | schedule e d =>
    rw [State.admit_schedule]
    have hframe : s.Frame (s.setEntry e { s.entry e with state := .outstanding, held := none }) :=
      .of_eq rfl rfl rfl rfl (fun _ _ => rfl) rfl
    exact (State.Changes.frame hframe).trans (State.join_changes hlen rfl rfl rfl)
  | ring n d =>
    rw [State.admit_ring]
    have hframe : s.Frame ((s.setRing n { s.ring n with
        staging := none, consumed := (s.ring n).consumed + 1, outstanding := (s.ring n).outstanding + 1,
        state := .idle }).writeStatus) :=
      .of_eq rfl rfl rfl rfl (fun _ _ => rfl) rfl
    exact (State.Changes.frame hframe).trans (State.join_changes hlen rfl rfl rfl)

theorem State.takeNext_changes {s : State} {b : Bank} {q : QueueEntry} (hnext : s.nextTake b = some q) :
    State.Changes G s (s.takeNext b) := by
  have hidle : (s.bank b).seq = .idle := by
    unfold State.nextTake at hnext
    split at hnext
    next h => exact h.2
    next => cases hnext
  unfold State.takeNext
  split
  next hq =>
    have htake : State.Changes G s ((s.setBank b (s.bank b)).takeHead b) :=
      State.takeHead_changes (by simp [hq]) (fun _ => .inl hidle) fun h => h.1
    rwa [State.setBank_self] at htake
  next =>
    split
    next => exact .refl s
    next hc => exact State.admitCandidate_changes hc

/-- The head leaves, and the next is taken or the sequencer rests (03:R66). -/
theorem State.sequencerPosted_changes {s : State} {b : Bank}
    (hfree : G → (s.bank b).seq = .posting ∧ s.cw.granted = none) : State.Changes G s (s.sequencerPosted b) := by
  unfold State.sequencerPosted
  dsimp only
  split
  next hq =>
    refine .of (.turn s b _ (fun g => .inr (hfree g)) (.inl rfl) fun _ => ?_)
    exact .idle hq rfl rfl
  next q qs hq =>
    refine State.takeHead_changes (by rw [hq]; simp) (fun g => .inr (hfree g)) fun h => ?_
    have := h.1
    simp only [List.length_tail]
    omega

/-! ### The monitor (chapter 5) -/

theorem SupplyMonitor.grantAll_evolves {m : SupplyMonitor} (hs : m.state = .settling) : m.Evolves m.grantAll := by
  have hget (b : Bank) : m.grantAll.holders[b] =
      m.holders[b].map fun _ => { status := .granted, lowSeen := m.reading == some .low } := by
    simp [SupplyMonitor.grantAll]
  refine ⟨fun ⟨hoff, hread, _⟩ => ⟨?_, ?_, fun b h hh => ?_⟩, fun b => by rw [hget]; simp, fun b h hh hw => ?_⟩
  · simp only [hget, Option.map_eq_none_iff, ← hoff, hs]
    simp [SupplyMonitor.grantAll]
  · change MonitorState.watching = .off ↔ m.reading = none
    rw [← hread, hs]
    simp
  · rw [hget] at hh
    obtain ⟨-, -, rfl⟩ := Option.map_eq_some_iff.mp hh
    simp [SupplyMonitor.grantAll]
  · rw [hget] at hh
    obtain ⟨-, -, rfl⟩ := Option.map_eq_some_iff.mp hh
    simp at hw

theorem SupplyMonitor.markGranted_evolves (m : SupplyMonitor) : m.Evolves m.markGranted := by
  have hget (b : Bank) : m.markGranted.holders[b] = m.holders[b].map Holder.lowTransition := by
    simp [SupplyMonitor.markGranted]
  have hstatus (h : Holder) : h.lowTransition.status = h.status := by
    unfold Holder.lowTransition
    split <;> rfl
  have hlow (h : Holder) (hl : h.lowTransition.lowSeen = true) : h.lowSeen = true ∨ h.status = .granted := by
    unfold Holder.lowTransition at hl
    split at hl
    next hg => exact .inr hg
    next => exact .inl hl
  refine ⟨fun ⟨hoff, hread, hgranted⟩ => ⟨?_, hread, fun b h hh => ?_⟩, fun b => by rw [hget]; simp,
    fun b h hh hw => ?_⟩
  · simp only [hget, Option.map_eq_none_iff]
    exact hoff
  · rw [hget] at hh
    obtain ⟨h', hh', rfl⟩ := Option.map_eq_some_iff.mp hh
    obtain ⟨h1, h2⟩ := hgranted b h' hh'
    rw [hstatus]
    exact ⟨h1, fun hl => (hlow h' hl).elim h2 id⟩
  · rw [hget] at hh
    obtain ⟨h', hh', rfl⟩ := Option.map_eq_some_iff.mp hh
    exact ⟨h', hh', by rwa [hstatus] at hw⟩

/-- A powered comparator keeps a reading, and in OFF there is none (05:R83). -/
theorem SupplyMonitor.readingAt_evolves (m : SupplyMonitor) (mv : Nat) :
    m.Evolves { m with reading := m.readingAt mv } := by
  refine ⟨fun ⟨hoff, hread, hgranted⟩ => ⟨hoff, ?_, hgranted⟩, fun _ => rfl, fun b h hh hw => ⟨h, hh, hw⟩⟩
  by_cases hs : m.state = .off
  · simp only [m.readingAt_off mv hs]
    exact hread
  · have hpowered : m.reading ≠ none := fun hn => hs (hread.mpr hn)
    simp only [hs, false_iff, SupplyMonitor.readingAt, if_false]
    split
    · simp
    · split
      · simp
      · exact hpowered

theorem State.raise_frame (s : State) (c : Cause) : s.Frame (s.raise c) :=
  .of_eq rfl rfl rfl rfl (fun _ _ => rfl) rfl

theorem State.raiseIf_changes (s : State) (p : Bool) (c : Cause) : State.Changes G s (s.raiseIf p c) :=
  .frame (.of_eq (by simp) (by simp) (by simp) (by simp) (by simp) (by simp))

theorem State.supplySettleEnd_changes (s : State) : State.Changes G s s.supplySettleEnd := by
  unfold State.supplySettleEnd
  split
  next hdue =>
    obtain ⟨hset, -⟩ := s.sm.settleEndDue_iff.mp hdue
    refine (State.Changes.of (.monitor s _ (SupplyMonitor.grantAll_evolves hset))).trans ?_
    refine State.Changes.trans ?_ (State.raiseIf_changes _ _ _)
    refine State.Changes.foldl (I := fun t => t.sm = s.sm.grantAll) (fun t b ht => ⟨?_, ?_⟩) _ _ rfl
    · unfold State.grantAtSettleEnd
      split
      next hsome =>
        obtain ⟨h, hh⟩ := Option.isSome_iff_exists.mp hsome
        refine State.grantHolder_changes ⟨h, hh, ?_⟩
        have hall : t.holder b = ({ s with sm := s.sm.grantAll } : State).holder b := by simp only [State.holder, ht]
        rw [hall, State.grantAll_holder] at hh
        obtain ⟨-, -, rfl⟩ := Option.map_eq_some_iff.mp hh
        rfl
      next => exact .refl t
    · exact (State.grantAtSettleEnd_sm ((s.grantAll_fresh b).of_sm ht)).trans ht
  next => exact .refl s

theorem State.deliverBank_changes (s : State) (b : Bank) : State.Changes G s (s.deliverBank b) :=
  ((s.deliverNotice_changes b).trans (State.deliverEnd_changes _ b)).trans (State.deliverGrant_changes _ b)

theorem State.deliverSome_changes (s : State) (b : Bank) : State.Changes G s (s.deliverSome b) := by
  cases h : s.messageDue b with
  | false =>
    rw [State.deliverSome_of_none h]
    exact .refl s
  | true =>
    obtain ⟨notice, ending, grant, heq⟩ := State.deliverSome_of_due h
    have hpick (p : Bool) (t u : State) (hu : State.Changes G t u) : State.Changes G t (if p then u else t) := by
      cases p
      · exact .refl t
      · exact hu
    rw [heq]
    exact (((State.Changes.frame (s.draw_frame (s.draws + 3))).trans
      (hpick notice _ _ (State.deliverNotice_changes _ b))).trans
      (hpick ending _ _ (State.deliverEnd_changes _ b))).trans (hpick grant _ _ (State.deliverGrant_changes _ b))

theorem State.lowTransitionEffects_changes (s : State) : State.Changes G s s.lowTransitionEffects := by
  refine (State.Changes.of (.monitor s _ s.sm.markGranted_evolves)).trans ?_
  refine State.Changes.trans ?_ (.frame (State.raise_frame _ .supplyLow))
  refine State.Changes.foldl_all (fun t b => ?_) _ _
  split
  · exact t.sendNotice_changes b
  · exact .refl t

theorem State.setAvdd_changes (s : State) (mv : Nat) : State.Changes G s (s.setAvdd mv) :=
  (State.Changes.of (.monitor s _ (s.sm.readingAt_evolves mv))).trans
    (.frame (.of_eq rfl rfl rfl rfl (fun _ _ => rfl) rfl))

theorem State.pinAvdd_changes (s : State) (mv : Nat) : State.Changes G s (s.pinAvdd mv) := by
  unfold State.pinAvdd State.moveAvdd
  split
  · exact .frame (.of_eq rfl rfl rfl rfl (fun _ _ => rfl) rfl)
  · split
    · exact (s.setAvdd_changes mv).trans (State.lowTransitionEffects_changes _)
    · exact s.setAvdd_changes mv

/-! ### The cells and the tick (chapter 1, 11:R169) -/

theorem State.settleExpiry_changes (s : State) (b : Bank) : State.Changes G s (s.settleExpiry b) := by
  unfold State.settleExpiry
  split
  · exact s.setCell_changes b _
  · exact .refl s

theorem State.startTimeoutExpiry_changes (s : State) (b : Bank) : State.Changes G s (s.startTimeoutExpiry b) := by
  unfold State.startTimeoutExpiry
  split
  · exact s.endWindowWith_changes b _ _
  · exact .refl s

theorem State.refWindowTimeout_changes (s : State) (b : Bank) : State.Changes G s (s.refWindowTimeout b) := by
  unfold State.refWindowTimeout
  split
  · exact s.endWindowWith_changes b _ _
  · exact .refl s

theorem State.senseClose_changes (s : State) (b : Bank) : State.Changes G s (s.senseClose b) := by
  unfold State.senseClose
  split
  · exact s.endWindowWith_changes b _ _
  · exact .refl s

theorem State.takeFirstEdge_changes (s : State) (b : Bank) : State.Changes G s (s.takeFirstEdge b) := by
  unfold State.takeFirstEdge
  split
  · exact (s.setCell_changes b _).trans (State.senseClose_changes _ b)
  · exact .refl s

theorem State.dueAtCell_changes (s : State) (b : Bank) : State.Changes G s (s.dueAtCell b) := by
  unfold State.dueAtCell
  split
  · exact .refl s
  · exact s.settleExpiry_changes b
  · exact s.startTimeoutExpiry_changes b
  · exact s.refWindowTimeout_changes b
  · exact s.senseClose_changes b

theorem State.dueAtEntry_changes (s : State) (e : Entry) : State.Changes G s (s.dueAtEntry e) :=
  .frame (.of_eq (by simp) (by simp) (by simp) (by simp) (by simp) (by simp))

theorem State.takeDue_changes (s : State) : State.Changes G s s.takeDue :=
  ((State.Changes.foldl_all State.dueAtCell_changes _ s).trans (State.supplySettleEnd_changes _)).trans
    (State.Changes.foldl_all State.dueAtEntry_changes _ _)

theorem State.tickTimeBase_frame_view (s : State) : s.Frame s.tickTimeBase := by
  unfold State.tickTimeBase State.stepMicros
  split
  · refine ⟨id, fun h => h.of_seq rfl rfl fun _ => id, fun _ => rfl, fun _ => rfl, fun _ => rfl, fun _ _ => rfl,
      ?_, ?_, ?_⟩
    all_goals dsimp only; split <;> rfl
  · exact .of_eq rfl rfl rfl rfl (fun _ _ => rfl) rfl

theorem State.tick_changes (s : State) : State.Changes G s s.tick := by
  have hcells (t : State) : t.Frame t.tickCells := .of_eq rfl rfl rfl rfl (fun _ _ => rfl) rfl
  exact ((s.takeDue_changes.trans (State.Changes.foldl_all State.deliverBank_changes _ _)).trans
    (.frame (hcells _))).trans (.frame (State.tickTimeBase_frame_view _))

theorem State.writeBankAbort_changes (s : State) (v : BitVec 32) : State.Changes G s (s.writeBankAbort v) := by
  unfold State.writeBankAbort
  split
  · refine State.Changes.foldl_all (fun t b => ?_) _ _
    split
    · exact t.abortBank_changes b
    · exact .refl t
  · exact .refl s

end Sys2Proof.Machine
end

section
/-! PROOFS. Every command is a sequence of the changes, and so keeps the sequencers, leases and holds sound. -/
namespace Sys2Proof.Machine

open Sys2Proof

variable {G : Prop}

/-! ### The fetch unit (chapter 6) -/

/-- A record that stays the oldest of the posting list keeps its grant. -/
theorem State.Frame.of_oldest {s t : State} (hcu : t.cu.state = s.cu.state)
    (hfu : ∀ r, s.fu.posting.head? = some r → t.fu.posting.head? = some r)
    (hcw : t.cw = s.cw) (hbanks : t.banks = s.banks) (hrefs : ∀ b r, t.ref b r = s.ref b r) (hsm : t.sm = s.sm) :
    s.Frame t :=
  have hsame : s.Frame { t with fu := { t.fu with posting := s.fu.posting } } := .of_eq hcu rfl hcw hbanks hrefs hsm
  { hsame with
    grant := by
      intro h
      obtain ⟨hnone, hreq⟩ := hsame.grant h
      refine ⟨hnone, fun g hg => ?_⟩
      have hg' := hreq g hg
      cases hq : g.requester with
      | bs b => simp only [hq] at hg' ⊢; exact hg'
      | fu => simp only [hq] at hg' ⊢; exact hfu _ hg' }

theorem State.pushRecord_frame_view (s : State) (r : Record) : s.Frame (s.pushRecord r) := by
  refine .of_oldest rfl (fun q hq => ?_) rfl rfl (fun _ _ => rfl) rfl
  obtain ⟨l, hl⟩ : ∃ l, s.fu.posting = q :: l := by
    cases h : s.fu.posting with
    | nil => simp [h] at hq
    | cons p l => exact ⟨l, by simpa [h] using hq⟩
  simp [State.pushRecord, hl]

theorem State.setRing_frame_view (s : State) (n : Ring) (r : SubRing) : s.Frame (s.setRing n r) :=
  .of_eq rfl rfl rfl rfl (fun _ _ => rfl) rfl

theorem State.formFetchRecord_changes (s : State) (n : Ring) (r : Record) : State.Changes G s (s.formFetchRecord n r) :=
  (State.Changes.frame (s.setRing_frame_view n _)).trans (.frame (State.pushRecord_frame_view _ r))

theorem State.releaseFence_changes (s : State) (n : Ring) : State.Changes G s (s.releaseFence n) := by
  unfold State.releaseFence
  dsimp only
  split
  · exact s.formFetchRecord_changes n _
  · exact .refl s

theorem State.setRead_frame_view (s : State) (r : Option BusRead) : s.Frame (s.setRead r) :=
  .of_eq rfl rfl rfl rfl (fun _ _ => rfl) rfl

theorem State.clearSetupRead_frame_view (s : State) : s.Frame s.clearSetupRead :=
  .of_eq rfl rfl rfl rfl (fun _ _ => rfl) rfl

theorem State.takeRingAnswer_changes (s : State) (n : Ring) (a : ReadAnswer) :
    State.Changes G s (s.takeRingAnswer n a) := by
  unfold State.takeRingAnswer
  split
  · cases a with
    | okay d =>
      dsimp only
      unfold State.stageAnswer
      split
      · exact (State.Changes.frame (s.setRing_frame_view n _)).trans (State.formFetchRecord_changes _ n _)
      · exact .frame (s.setRing_frame_view n _)
    | busError =>
      dsimp only
      refine State.Changes.trans ?_ (.frame (State.pushRecord_frame_view _ _))
      exact .frame (.of_eq rfl rfl rfl rfl (fun _ _ => rfl) rfl)
  · exact .refl s

theorem State.setEntry_frame_view (s : State) (e : Entry) (x : SchedEntry) : s.Frame (s.setEntry e x) :=
  .of_eq rfl rfl rfl rfl (fun _ _ => rfl) rfl

theorem State.templateFails_changes (s : State) (e : Entry) (tag : BitVec 16) (f : CheckFailure) :
    State.Changes G s (s.templateFails e tag f) :=
  (State.Changes.frame (s.setEntry_frame_view e _)).trans (.frame (State.pushRecord_frame_view _ _))

theorem State.takeTemplateAnswer_changes (s : State) (e : Entry) (a : ReadAnswer) :
    State.Changes G s (s.takeTemplateAnswer e a) := by
  unfold State.takeTemplateAnswer
  split
  · cases a with
    | okay d =>
      dsimp only
      split
      · exact .frame (s.setEntry_frame_view e _)
      · exact s.templateFails_changes e _ _
    | busError => exact s.templateFails_changes e _ _
  · exact .refl s

theorem SupplyMonitor.setParams_view (m : SupplyMonitor) (p : SupplyParams) :
    (m.setParams p).state = m.state ∧ (m.setParams p).reading = m.reading ∧
      (m.setParams p).holders = m.holders := by
  cases hs : m.state <;> simp [SupplyMonitor.setParams, hs, SupplyMonitor.applyPending]

theorem State.setParams_changes (s : State) (p : SupplyParams) :
    State.Changes G s { s with sm := s.sm.setParams p } := by
  obtain ⟨hstate, hreading, hholders⟩ := s.sm.setParams_view p
  exact .frame ⟨id, id, fun _ => rfl, fun _ => rfl, fun _ => rfl, fun _ _ => rfl, hstate, hreading, hholders⟩

/-! ### Faults and resets (10 sections 10.4 and 10.5) -/

theorem State.setWrites_frame_view (s : State) (ws : List BusWrite) : s.Frame (s.setWrites ws) :=
  .of_eq rfl rfl rfl rfl (fun _ _ => rfl) rfl

theorem State.reportFault_changes (s : State) (code : FaultCode) (addr : BitVec 16) :
    State.Changes G s (s.reportFault code addr) := by
  unfold State.reportFault
  split
  iterate 3 exact .of (.fault s code addr)
  · exact .frame (.of_eq rfl rfl rfl rfl (fun _ _ => rfl) rfl)
  all_goals exact .refl s

theorem State.resetIfQuiet_changes (s : State) : State.Changes G s s.resetIfQuiet := by
  unfold State.resetIfQuiet
  split
  · exact .of (.reset s)
  · exact .refl s

theorem State.writeSoftReset_changes (s : State) (on : Bool) : State.Changes G s (s.writeSoftReset on) := by
  unfold State.writeSoftReset
  split
  · exact .refl s
  · exact (State.Changes.of (.halt s)).trans (State.resetIfQuiet_changes _)

/-! ### The completion writer (chapter 8) -/

theorem State.granted_frame {s t : State} (hcu : t.cu = s.cu) (hbanks : t.banks = s.banks)
    (hrefs : ∀ b r, t.ref b r = s.ref b r) (hsm : t.sm = s.sm) (hgrant : s.GrantSound → t.GrantSound) : s.Frame t where
  resetting := by rw [hcu]; exact id
  grant := hgrant
  queue b := by rw [State.bank_of_banks hbanks]
  seq b := by rw [State.bank_of_banks hbanks]
  context b := by rw [State.bank_of_banks hbanks]
  ref := hrefs
  monitor := by rw [hsm]
  reading := by rw [hsm]
  holders := by rw [hsm]

/-- A granted record stays granted, in another grant state. -/
theorem State.GrantSound.regrant {s t : State} (h : s.GrantSound) (hgranted : t.cw.granted = s.cw.granted)
    (hgrant : t.cw.grant = .none ↔ s.cw.grant = .none) (hposting : t.fu.posting = s.fu.posting)
    (hbanks : t.banks = s.banks) : t.GrantSound := by
  obtain ⟨hnone, hreq⟩ := h
  refine ⟨by rw [hgranted, hgrant]; exact hnone, fun g hg => ?_⟩
  simpa only [hposting, State.bank_of_banks hbanks] using hreq g (hgranted ▸ hg)

/-- A requester that is granted has its record in request (08:R125, 08:R126). -/
theorem State.request_of_nextRequest {s : State} {g : Granted} (h : s.nextRequest = some g) :
    s.request g.requester = some g.record := by
  obtain ⟨q, -, hq⟩ := List.exists_of_findSome?_eq_some h
  obtain ⟨r, hr, rfl⟩ := Option.map_eq_some_iff.mp hq
  exact hr

/-- The requester of a new grant is as the grant needs it. -/
theorem State.GrantSound.of_request {s t : State} {g : Granted} (hg : s.request g.requester = some g.record)
    (hgranted : t.cw.granted = some g) (hgrant : t.cw.grant ≠ .none) (hposting : t.fu.posting = s.fu.posting)
    (hbanks : t.banks = s.banks) : t.GrantSound := by
  refine ⟨by simp [hgrant, hgranted], fun g' hg' => ?_⟩
  cases hgranted.symm.trans hg'
  cases hq : g.requester with
  | bs b =>
    simp only [hq, State.request] at hg
    split at hg
    next hseq => simpa only [State.bank_of_banks hbanks] using hseq
    next => cases hg
  | fu => simpa only [hq, State.request, hposting] using hg

theorem State.issueRecord_view (s : State) (r : Record) :
    (s.issueRecord r).cu = s.cu ∧ (s.issueRecord r).banks = s.banks ∧
      (∀ b q, (s.issueRecord r).ref b q = s.ref b q) ∧ (s.issueRecord r).sm = s.sm ∧
      (s.issueRecord r).fu.posting = s.fu.posting := by simp

theorem State.grantNext_changes (s : State) : State.Changes G s s.grantNext := by
  rcases s.grantNext_cases with heq | ⟨-, -, g, hnext, ⟨-, heq⟩ | ⟨-, heq⟩⟩ <;> rw [heq]
  · exact .refl s
  · obtain ⟨q, hq, hcw⟩ := State.issueRecord_cw { s with cw := { s.cw with granted := some g } } g.record
    obtain ⟨hcu, hbanks, hrefs, hsm, hfu⟩ :=
      State.issueRecord_view { s with cw := { s.cw with granted := some g } } g.record
    refine .frame (State.granted_frame hcu hbanks hrefs hsm fun _ => ?_)
    exact .of_request (State.request_of_nextRequest hnext) (by rw [hcw]) (by rw [hcw]; exact hq) hfu hbanks
  · refine .frame (State.granted_frame rfl rfl (fun _ _ => rfl) rfl fun _ => ?_)
    exact .of_request (s := s) (State.request_of_nextRequest hnext) rfl (by simp) rfl rfl

theorem State.afterFollowing_changes (s : State) : State.Changes G s s.afterFollowing := by
  unfold State.afterFollowing
  split
  next hguard =>
    simp only [Bool.and_eq_true, beq_iff_eq] at hguard
    split
    · exact .refl s
    · refine .frame (State.granted_frame rfl rfl (fun _ _ => rfl) rfl fun h => ?_)
      exact h.regrant rfl (by simp [hguard.1.2, State.issueHeader_cw]) rfl rfl
  next => exact .refl s

theorem State.retestStall_changes (s : State) : State.Changes G s s.retestStall := by
  unfold State.retestStall
  split
  next hstalled =>
    split
    · exact .refl s
    next g hg =>
      by_cases hfits : g.record.slotCount ≤ s.cw.free
      · rw [State.spaceCheck_fits s g.record hfits]
        obtain ⟨q, hq, hcw⟩ := s.issueRecord_cw g.record
        obtain ⟨hcu, hbanks, hrefs, hsm, hfu⟩ := s.issueRecord_view g.record
        refine .frame (State.granted_frame hcu hbanks hrefs hsm fun h => ?_)
        exact h.regrant (by rw [Option.getD_some, hcw]) (by rw [Option.getD_some, hcw]; simp [hq, hstalled]) hfu hbanks
      · rw [State.spaceCheck_stalls s g.record hfits]
        exact .refl s
  next => exact .refl s

theorem State.writeCqHead_changes (s : State) (v : BitVec 32) : State.Changes G s (s.writeCqHead v) := by
  have hhead : State.Changes G s { s with cw := { s.cw with head := cqHeadValue v } }.retestStall := by
    refine State.Changes.trans ?_ (State.retestStall_changes _)
    exact .frame (State.granted_frame rfl rfl (fun _ _ => rfl) rfl fun h => h.regrant rfl Iff.rfl rfl rfl)
  have hraise : State.Changes G s (s.raise .hostError) := .frame (s.raise_frame _)
  unfold State.writeCqHead
  split
  · exact .refl s
  iterate 3
    split
    · exact hhead
    · exact hraise
  all_goals exact hraise

/-- With no grant the posting list may lose its oldest record. -/
theorem State.fetchPosted_changes {s : State} (hgrant : s.cw.grant = .none) (hgranted : s.cw.granted = none)
    (r : Record) : State.Changes G s (s.fetchPosted r) := by
  refine .frame (State.granted_frame (by simp) (by simp) (by simp) (by simp) fun _ => ?_)
  exact .of_none (by simpa using hgrant) (by simpa using hgranted)

theorem State.outstandingFalls_changes (s : State) (n : Ring) : State.Changes G s (s.outstandingFalls n) :=
  (State.Changes.frame (s.setRing_frame_view n _)).trans (State.releaseFence_changes _ n)

theorem State.sourceNotice_changes (s : State) (src : Source) : State.Changes G s (s.sourceNotice src) := by
  cases src with
  | ring n => exact s.outstandingFalls_changes n
  | schedule e => exact .frame (s.setEntry_frame_view e _)

theorem State.errorNotice_changes (s : State) (src : Source) : State.Changes G s (s.errorNotice src) := by
  cases src with
  | ring n => exact .refl s
  | schedule e => exact .frame (s.setEntry_frame_view e _)

/-- A posting takes the grant away, and the sequencer of its record was in POSTING. -/
theorem State.postRecord_changes {s : State} {g : Granted} (hg : s.cw.granted = some g) (h : G → s.GrantSound) :
    State.Changes G s (s.postRecord g) := by
  rw [State.postRecord_eq]
  have hposted : State.Changes G s (s.posted g) :=
    .frame (State.granted_frame rfl rfl (fun _ _ => rfl) rfl fun _ => .of_none rfl rfl)
  refine hposted.trans ?_
  unfold State.postingNotices
  cases hq : g.requester with
  | bs b =>
    refine (State.sourceNotice_changes _ _).trans (State.sequencerPosted_changes fun hG => ⟨?_, ?_⟩)
    · have hseq := (h hG).2 g hg
      simp only [hq] at hseq
      have hbank : ((s.posted g).sourceNotice g.record.source).bank b = s.bank b := by
        simp only [State.sourceNotice_frame]
        rfl
      rw [hbank]
      exact hseq
    · simp [State.posted, CompletionWriter.post]
  | fu => exact (State.fetchPosted_changes rfl rfl _).trans (State.errorNotice_changes _ _)

theorem State.afterHeader_changes {s : State} (h : G → s.GrantSound) : State.Changes G s s.afterHeader := by
  unfold State.afterHeader
  split
  · split
    · exact .refl s
    next hg => exact State.postRecord_changes hg h
  · exact .refl s

/-! ### The life cycle (10 sections 10.2 and 10.3) -/

/-- The controller in another state, which it does not reach from RESETTING. -/
theorem State.control_frame {s t : State} (hnot : s.cu.state ≠ .resetting) (hfu : t.fu.posting = s.fu.posting)
    (hcw : t.cw = s.cw) (hbanks : t.banks = s.banks) (hrefs : ∀ b r, t.ref b r = s.ref b r) (hsm : t.sm = s.sm) :
    s.Frame t :=
  { State.Frame.of_eq (s := s) (t := { t with cu := s.cu }) rfl hfu hcw hbanks hrefs hsm with
    resetting := fun _ => hnot }

theorem State.enterLoading_changes {s : State} (h : s.cu.state ≠ .resetting) (r : ReturnState) :
    State.Changes G s (s.enterLoading r) := by
  unfold State.enterLoading
  dsimp only
  split
  · exact .frame (State.control_frame h rfl rfl rfl (fun _ _ => rfl) rfl)
  · refine State.Changes.trans ?_ (State.reportFault_changes _ _ _)
    exact .frame (State.control_frame h rfl rfl rfl (fun _ _ => rfl) rfl)

theorem State.drainIfComplete_changes (s : State) : State.Changes G s s.drainIfComplete := by
  unfold State.drainIfComplete
  split
  next hdrain =>
    exact .frame (State.control_frame (by simp [hdrain.1]) rfl rfl rfl (fun _ _ => rfl) rfl)
  next => exact .refl s

theorem State.enterStopping_changes {s : State} (h : s.cu.state ≠ .resetting) :
    State.Changes G s s.enterStopping := by
  rw [State.enterStopping_eq]
  refine State.Changes.trans ?_ (State.drainIfComplete_changes _)
  exact .frame (State.control_frame h rfl rfl rfl (fun _ _ => rfl) rfl)

theorem State.writeEnable_changes (s : State) (on : Bool) : State.Changes G s (s.writeEnable on) := by
  have henable (t : State) (v : Bool) : State.Changes G t (t.setEnable v) :=
    .frame (.of_eq rfl rfl rfl rfl (fun _ _ => rfl) rfl)
  have hraise : State.Changes G s (s.raise .hostError) := .frame (s.raise_frame _)
  unfold State.writeEnable
  cases hstate : s.cu.state with
  | off | stopped =>
    cases on with
    | true => exact State.enterLoading_changes (by simp [hstate]) _
    | false => exact .refl s
  | loading => exact .frame (.of_eq rfl rfl rfl rfl (fun _ _ => rfl) rfl)
  | running =>
    cases on with
    | true => exact .refl s
    | false => exact State.enterStopping_changes (by simp [hstate])
  | stopping =>
    cases on with
    | true => exact hraise
    | false => exact .refl s
  | faulted =>
    cases on with
    | true => exact hraise
    | false => exact henable s false
  | resetting => exact .refl s

/-- A load takes the last admitted ring of every bank and the place of the completion ring, and no more of them. -/
theorem State.endLoading_frame_view {s : State} (h : s.cu.state ≠ .resetting) (d : Bytes) :
    s.Frame (s.endLoading d) := by
  have hbank (b : Bank) : (s.endLoading d).bank b = { s.bank b with lastAdmitted := 3 } := by
    simp [State.endLoading, State.bank, mapAll]
  refine ⟨fun _ => h, fun hgrant => ?_, fun b => by rw [hbank], fun b => by rw [hbank], fun b => by rw [hbank],
    fun _ _ => rfl, rfl, rfl, rfl⟩
  obtain ⟨hnone, hreq⟩ := hgrant
  refine ⟨hnone, fun g hg => ?_⟩
  have hg' := hreq g hg
  cases hq : g.requester with
  | bs b => simpa only [hq, hbank] using hg'
  | fu => simp only [hq] at hg' ⊢; exact hg'

theorem State.takeSetupAnswer_changes (s : State) (a : ReadAnswer) : State.Changes G s (s.takeSetupAnswer a) := by
  unfold State.takeSetupAnswer
  split
  next hloading =>
    have hnot : s.cu.state ≠ .resetting := by simp [hloading]
    split
    · exact .frame (State.control_frame hnot rfl rfl rfl (fun _ _ => rfl) rfl)
    · cases a with
      | busError => exact s.reportFault_changes _ _
      | okay d =>
        cases hd : setupFailure d with
        | some off => simp only [hd]; exact s.reportFault_changes _ _
        | none => simp only [hd]; exact .frame (State.endLoading_frame_view hnot d)
  next => exact .refl s

theorem State.writeSetupAddr_changes (s : State) (addr : Addr) : State.Changes G s (s.writeSetupAddr addr) := by
  unfold State.writeSetupAddr
  split
  · exact .frame (.of_eq rfl rfl rfl rfl (fun _ _ => rfl) rfl)
  · exact .frame (.of_eq rfl rfl rfl rfl (fun _ _ => rfl) rfl)
  iterate 4 exact .frame (s.raise_frame _)
  exact .refl s

/-! ### Every command -/

/-- An answered slot write leaves the list, and is taken by its answer. -/
theorem slotAnswer_changes {s : State} {f : State → State} (ws : List BusWrite) (code : FaultCode) (addr : BitVec 16)
    (a : WriteAnswer) (hf : State.Changes G (s.setWrites ws) (f (s.setWrites ws))) :
    State.Changes G s (match a with
      | .okay => f (s.setWrites ws)
      | .busError => (s.setWrites ws).reportFault code addr) := by
  refine (State.Changes.frame (s.setWrites_frame_view ws)).trans ?_
  cases a with
  | okay => exact hf
  | busError => exact State.reportFault_changes _ _ _

theorem exec_changes {c : Instr} {s t : State} (hc : ∀ o l v, c ≠ .registerWriteIgnored o l v)
    (hgrant : G → s.GrantSound) (hstep : exec c s = .next t) : State.Changes G s t := by
  have hrefl := State.Changes.refl (G := G) s
  cases c with
  | registerWriteIgnored o l v => exact absurd rfl (hc o l v)
  | settleDelayExpiry b => exact released_keeps hstep hrefl (s.settleExpiry_changes b)
  | firstEdge b => exact released_keeps hstep hrefl (s.takeFirstEdge_changes b)
  | startTimeout b => exact released_keeps hstep hrefl (s.startTimeoutExpiry_changes b)
  | refTimeout b => exact released_keeps hstep hrefl (s.refWindowTimeout_changes b)
  | senseWindowClose b => exact released_keeps hstep hrefl (s.senseClose_changes b)
  | refDone b | overflow b =>
    refine released_keeps hstep hrefl ?_
    split
    · exact s.endWindowWith_changes b _ _
    · exact hrefl
  | countedEdge b =>
    refine released_keeps hstep hrefl ?_
    split
    · exact s.setCell_changes b _
    · exact hrefl
  | admission b =>
    refine released_keeps hstep hrefl ?_
    split
    · exact hrefl
    next hc => exact State.admitCandidate_changes hc
  | measure b =>
    refine released_keeps hstep hrefl ?_
    cases hnext : s.nextTake b with
    | none => simp only [State.measureNext, hnext, Bool.and_false]; exact hrefl
    | some q =>
      split
      · exact State.takeNext_changes hnext
      · exact hrefl
  | setBank b =>
    refine released_keeps hstep hrefl ?_
    cases hnext : s.nextTake b with
    | none => simp only [State.setBankNext, hnext]; exact hrefl
    | some q =>
      split
      · exact State.takeNext_changes hnext
      · exact hrefl
  | supplySettleEnd =>
    refine released_keeps hstep hrefl ?_
    split
    · exact s.supplySettleEnd_changes
    · exact State.Changes.foldl_all State.deliverSome_changes _ s
  | lowTransition | comparatorReadsHigh | comparatorReadsLow =>
    cases hstep
    exact s.pinAvdd_changes _
  | bankAbort v => exact released_keeps hstep hrefl (s.writeBankAbort_changes v)
  | submit v =>
    refine released_keeps hstep hrefl ?_
    unfold State.writeSubmit
    split
    · exact hrefl
    · split
      · exact .frame (s.setRing_frame_view _ _)
      · exact .frame (s.raise_frame _)
  | ringReadIssue =>
    refine released_keeps hstep hrefl ?_
    split
    · split
      · exact hrefl
      · exact .frame (.of_eq rfl rfl rfl rfl (fun _ _ => rfl) rfl)
    · exact hrefl
  | templateReadIssue =>
    refine released_keeps hstep hrefl ?_
    split
    · split
      · exact hrefl
      · exact .frame (.of_eq rfl rfl rfl rfl (fun _ _ => rfl) rfl)
    · exact hrefl
  | ringReadAnswer a =>
    refine released_keeps hstep hrefl ?_
    split
    · exact (State.Changes.frame (s.setRead_frame_view none)).trans (State.takeRingAnswer_changes _ _ a)
    · exact hrefl
  | templateReadAnswer a =>
    refine released_keeps hstep hrefl ?_
    split
    · exact (State.Changes.frame (s.setRead_frame_view none)).trans (State.takeTemplateAnswer_changes _ _ a)
    · exact hrefl
  | invalidateRef n =>
    refine released_keeps hstep hrefl ?_
    split
    · exact hrefl
    · exact (s.invalidateNamed_changes _ _).trans (State.formFetchRecord_changes _ n _)
  | reportRefs n =>
    refine released_keeps hstep hrefl ?_
    split
    · exact hrefl
    · exact s.formFetchRecord_changes n _
  | setSupply n =>
    refine released_keeps hstep hrefl ?_
    split
    · exact hrefl
    · exact (s.setParams_changes _).trans (State.formFetchRecord_changes _ n _)
  | setSchedule n =>
    refine released_keeps hstep hrefl ?_
    split
    · exact hrefl
    · refine State.Changes.trans ?_ (State.formFetchRecord_changes _ n _)
      exact .frame (.of_eq (by simp) (by simp) (by simp) (by simp) (by simp) (by simp))
  | clearSchedule n =>
    refine released_keeps hstep hrefl ?_
    split
    · exact hrefl
    · exact (State.Changes.frame (s.setEntry_frame_view _ _)).trans (State.formFetchRecord_changes _ n _)
  | fence n =>
    refine released_keeps hstep hrefl ?_
    split
    · exact hrefl
    · exact (State.Changes.frame (s.setRing_frame_view n _)).trans (State.releaseFence_changes _ n)
  | scheduleExpiry e =>
    refine released_keeps hstep hrefl ?_
    split
    · exact .frame (.of_eq (by simp) (by simp) (by simp) (by simp) (by simp) (by simp))
    · exact hrefl
  | statusWriteAnswer a =>
    refine released_keeps hstep hrefl ?_
    split
    · exact hrefl
    · exact slotAnswer_changes (f := id) _ _ _ a (.refl _)
  | cqGrant => exact released_keeps hstep hrefl s.grantNext_changes
  | followingSlotWriteAnswer k a =>
    refine released_keeps hstep hrefl ?_
    split
    · exact hrefl
    · exact slotAnswer_changes (f := State.afterFollowing) _ _ _ a (State.afterFollowing_changes _)
  | headerWriteAnswer a =>
    refine released_keeps hstep hrefl ?_
    split
    · exact hrefl
    · exact slotAnswer_changes (f := State.afterHeader) _ _ _ a (State.afterHeader_changes hgrant)
  | cqHead v => exact released_keeps hstep hrefl (s.writeCqHead_changes v)
  | enable on => exact released_keeps hstep hrefl (s.writeEnable_changes on)
  | softReset on => exact released_keeps hstep hrefl (s.writeSoftReset_changes on)
  | setupAddrLo v | setupAddrHi v => exact released_keeps hstep hrefl (s.writeSetupAddr_changes _)
  | setupReadAnswer a =>
    refine released_keeps hstep hrefl ?_
    split
    · exact hrefl
    · exact (State.Changes.frame s.clearSetupRead_frame_view).trans (State.takeSetupAnswer_changes s.clearSetupRead a)
  | drainComplete => exact released_keeps hstep hrefl s.drainIfComplete_changes
  | softResetComplete => exact released_keeps hstep hrefl s.resetIfQuiet_changes
  | resetNAsserted =>
    cases hstep
    exact (State.Changes.of (.reset s)).trans (.frame (.of_eq rfl rfl rfl rfl (fun _ _ => rfl) rfl))
  | resetNReleased =>
    cases hstep
    exact .frame (.of_eq rfl rfl rfl rfl (fun _ _ => rfl) rfl)
  | eventCause v =>
    refine released_keeps hstep hrefl (.frame (.of_eq ?_ ?_ ?_ ?_ (fun _ _ => ?_) ?_)) <;> simp
  | eventMask v =>
    refine released_keeps hstep hrefl (.frame (.of_eq ?_ ?_ ?_ ?_ (fun _ _ => ?_) ?_)) <;> simp
  | conversionClockTick => exact released_keeps hstep hrefl s.tick_changes

/-- Settles O55: a command is a sequence of changes, each of which keeps every bank sequencer sound. -/
theorem stepKeepsBanksSound : Obligations.StepKeepsBanksSound :=
  step_keeps (fun _ _ h => h) (exec_keeps fun _ _ _ hc h hstep =>
    (exec_changes (G := False) hc False.elim hstep).keeps (fun _ _ hchange => hchange.keeps_banks) h)

/-- Settles O56: each change keeps the entries with the sequencer that converts or holds them. -/
theorem stepKeepsLeasesSound : Obligations.StepKeepsLeasesSound :=
  step_keeps (fun _ _ h => h) (exec_keeps fun _ _ _ hc h hstep =>
    (exec_changes (G := True) hc (fun _ => h.2.1) hstep).keeps (fun _ _ hchange => hchange.keeps_leases) h)

/-- Settles O57: each change keeps the hold set with the sequencers that hold or wait. -/
theorem stepKeepsHoldsSound : Obligations.StepKeepsHoldsSound :=
  step_keeps (fun _ _ h => h) (exec_keeps fun _ _ _ hc h hstep =>
    (exec_changes (G := True) hc (fun _ => h.2.1) hstep).keeps (fun _ _ hchange => hchange.keeps_holds) h)

end Sys2Proof.Machine
end

section
/-! PROOFS. The rings and the posting list stay sound (06:R93, 06:R95, 06:R107). -/
namespace Sys2Proof.Machine

open Sys2Proof

/-! ### The part of the invariant that is no matter of the grant's requester -/

/-- The controller states in which slots are fetched, staged, posted or still answered. -/
def State.Serving (s : State) : Prop :=
  s.cu.state = .running ∨ s.cu.state = .stopping ∨ s.cu.state = .resetting

/-- Nothing is staged, listed or granted. -/
structure State.Quiet (s : State) : Prop where
  grant : s.cw.grant = .none
  posting : s.fu.posting = []
  rings : ∀ n, (s.ring n).state.busy = false

/-- The rings with the posting list. -/
structure State.SlotsSound (s : State) : Prop where
  rings : ∀ n, (s.ring n).Sound
  listed : ∀ r ∈ s.fu.posting, ∀ n, r.Finishes n → (s.ring n).state = .posting
  single : s.fu.posting.Pairwise fun r q => ∀ n, r.Finishes n → ¬ q.Finishes n
  quiet : s.Serving ∨ s.Quiet

theorem State.ringsSound_iff (s : State) : s.RingsSound ↔ s.GrantSound ∧ s.SlotsSound := by
  constructor
  · rintro ⟨hgrant, hrings, hlisted, hsingle, hquiet⟩
    refine ⟨hgrant, hrings, hlisted, hsingle, ?_⟩
    by_cases hserve : s.Serving
    · exact .inl hserve
    · simp only [State.Serving, not_or] at hserve
      obtain ⟨h1, h2, h3⟩ := hquiet hserve.1 hserve.2.1 hserve.2.2
      exact .inr ⟨h1, h2, h3⟩
  · rintro ⟨hgrant, hrings, hlisted, hsingle, hquiet⟩
    refine ⟨hgrant, hrings, hlisted, hsingle, fun h1 h2 h3 => ?_⟩
    rcases hquiet with hserve | ⟨hg, hp, hr⟩
    · simp [State.Serving, h1, h2, h3] at hserve
    · exact ⟨hg, hp, hr⟩

theorem State.serving_of_working {s : State} (h : s.working = true) : s.Serving := by
  unfold State.working at h
  simp only [Bool.or_eq_true, beq_iff_eq] at h
  exact h.elim .inl (.inr ∘ .inl)

variable {s t : State} {n : Ring}

theorem State.ring_of_rings (h : t.rings = s.rings) (n : Ring) : t.ring n = s.ring n := by
  simp only [State.ring, h]

theorem State.SlotsSound.of_eq (h : s.SlotsSound) (hrings : t.rings = s.rings)
    (hposting : t.fu.posting = s.fu.posting) (hcu : t.cu.state = s.cu.state) (hcw : t.cw.grant = s.cw.grant) :
    t.SlotsSound where
  rings n := State.ring_of_rings hrings n ▸ h.rings n
  listed := by
    intro r hr n hf
    rw [State.ring_of_rings hrings n]
    exact h.listed r (hposting ▸ hr) n hf
  single := hposting ▸ h.single
  quiet := by
    refine h.quiet.imp (fun hs => ?_) fun ⟨h1, h2, h3⟩ => ⟨hcw.trans h1, hposting.trans h2, fun n => ?_⟩
    · rw [State.Serving, hcu]
      exact hs
    · rw [State.ring_of_rings hrings n]
      exact h3 n

/-- In a serving state the grant is free. -/
theorem State.SlotsSound.of_serving (h : s.SlotsSound) (hrings : t.rings = s.rings)
    (hposting : t.fu.posting = s.fu.posting) (hserve : t.Serving) : t.SlotsSound where
  rings n := State.ring_of_rings hrings n ▸ h.rings n
  listed := by
    intro r hr n hf
    rw [State.ring_of_rings hrings n]
    exact h.listed r (hposting ▸ hr) n hf
  single := hposting ▸ h.single
  quiet := .inl hserve

/-- With nothing staged, listed or granted the controller may be in any state. -/
theorem State.SlotsSound.of_quiet (hrings : ∀ n, (t.ring n).Sound) (hquiet : t.Quiet) : t.SlotsSound where
  rings := hrings
  listed r hr := by simp [hquiet.posting] at hr
  single := by simp [hquiet.posting]
  quiet := .inr hquiet

theorem State.SlotsSound.quiet_of_not_serving (h : s.SlotsSound) (hnot : ¬ s.Serving) : s.Quiet :=
  h.quiet.resolve_left hnot

/-! ### A ring alone -/

theorem SubRing.Sound.staging_none {r : SubRing} (h : r.Sound) (hstate : r.state.busy = false) : r.staging = none := by
  have := h.1
  simp only [hstate] at this
  simpa using this

/-- A staged slot is busy. -/
theorem SubRing.Sound.busy_of_staging {r : SubRing} (h : r.Sound) (hstaging : r.staging.isSome = true) :
    r.state.busy = true := (h.1.mp hstaging).1

/-- The slot of a busy ring is finished with: consumed moves, and stays within the size of the tail. -/
theorem SubRing.Sound.finish {r r' : SubRing} (h : r.Sound) (hbusy : r.state.busy = true)
    (hstaging : r'.staging = none) (hstate : r'.state = .idle) (hsize : r'.size = r.size) (htail : r'.tail = r.tail)
    (hconsumed : r'.consumed = r.consumed + 1) : r'.Sound := by
  obtain ⟨-, hle, hroom, hne⟩ := h
  have htail' := hne hbusy
  refine ⟨by simp [hstaging, hstate, RingState.busy], hsize ▸ hle, ?_, by simp [hstate, RingState.busy]⟩
  rw [hsize, htail, hconsumed]
  bv_omega

/-- A busy slot in another busy state. -/
theorem SubRing.Sound.move {r r' : SubRing} (h : r.Sound) (hbusy : r.state.busy = true)
    (hstaging : r'.staging.isSome ↔ r'.state.busy = true ∧ r'.state ≠ .fetching) (hsize : r'.size = r.size)
    (htail : r'.tail = r.tail) (hconsumed : r'.consumed = r.consumed) : r'.Sound := by
  obtain ⟨-, hle, hroom, hne⟩ := h
  refine ⟨hstaging, hsize ▸ hle, ?_, fun _ => ?_⟩
  · rw [hsize, htail, hconsumed]
    exact hroom
  · rw [htail, hconsumed]
    exact hne hbusy

/-- A ring at rest holds no slot. -/
theorem SubRing.Sound.rest {r r' : SubRing} (h : r.Sound) (hstaging : r'.staging = none)
    (hstate : r'.state.busy = false) (hsize : r'.size = r.size) (htail : r'.tail = r.tail)
    (hconsumed : r'.consumed = r.consumed) : r'.Sound := by
  obtain ⟨-, hle, hroom, -⟩ := h
  refine ⟨by simp [hstaging, hstate], hsize ▸ hle, ?_, by simp [hstate]⟩
  rw [hsize, htail, hconsumed]
  exact hroom

theorem SubRing.Sound.fault {r : SubRing} (h : r.Sound) : r.fault.Sound := by
  refine h.rest rfl ?_ rfl rfl rfl
  unfold SubRing.fault
  cases hs : r.state <;> rfl

theorem SubRing.fault_not_busy (r : SubRing) : r.fault.state.busy = false := by
  unfold SubRing.fault
  cases hs : r.state <;> rfl

/-- A ring at rest that a valid setup block configures. -/
theorem SubRing.configure_sound {r : SubRing} {d : Bytes} (hstaging : r.staging = none)
    (hd : setupFailure d = none) (n : Ring) : (r.configure d n).Sound := by
  unfold SubRing.configure
  rcases setupSqExponent_of_valid hd n with h0 | ⟨h4, h12⟩
  · simp [h0, SubRing.Sound, RingState.busy, hstaging]
  · have hne : setupSqExponent d n ≠ 0 := by omega
    simp [hne, SubRing.Sound, RingState.busy, hstaging, two_pow_le_4096 h12]

theorem SubRing.reset_sound : SubRing.reset.Sound := by
  simp [SubRing.Sound, SubRing.reset, RingState.busy]

/-! ### One ring, the posting list -/

theorem State.SlotsSound.setRing {r : SubRing} (h : s.SlotsSound) (hr : r.Sound)
    (hlisted : (s.ring n).state = .posting → r.state = .posting) (hserve : s.Serving) :
    (s.setRing n r).SlotsSound where
  rings m := by
    rw [State.setRing_ring]
    split
    · exact hr
    · exact h.rings m
  listed := by
    intro q hq m hf
    have hm := h.listed q hq m hf
    rw [State.setRing_ring]
    split
    next hnm => exact hlisted (hnm ▸ hm)
    next => exact hm
  single := h.single
  quiet := .inl hserve

/-- A record that finishes with no slot joins the list. -/
theorem State.SlotsSound.push {r : Record} (h : s.SlotsSound) (hr : ∀ n, ¬ r.Finishes n) (hserve : s.Serving) :
    (s.pushRecord r).SlotsSound where
  rings := h.rings
  listed := by
    intro q hq n hf
    rcases List.mem_append.mp hq with hq | hq
    · exact h.listed q hq n hf
    · exact absurd (List.mem_singleton.mp hq ▸ hf) (hr n)
  single := List.pairwise_append.mpr ⟨h.single, List.pairwise_singleton _ _, fun q _ p hp m _ hf =>
    hr m (List.mem_singleton.mp hp ▸ hf)⟩
  quiet := .inl hserve

/-- The record of a staged slot joins the list and its ring enters POSTING; no other record of the ring is listed, since
the ring was not in POSTING (06:R107). -/
theorem State.SlotsSound.form {r : Record} (h : s.SlotsSound) (hstaging : (s.ring n).staging.isSome = true)
    (hstate : (s.ring n).state ≠ .posting) (hr : ∀ m, r.Finishes m → m = n) (hserve : s.Serving) :
    (s.formFetchRecord n r).SlotsSound where
  rings m := by
    change ((s.setRing n _).ring m).Sound
    rw [State.setRing_ring]
    split
    · exact (h.rings n).move ((h.rings n).busy_of_staging hstaging) (by simp [hstaging, RingState.busy]) rfl rfl rfl
    · exact h.rings m
  listed := by
    intro q hq m hf
    change ((s.setRing n _).ring m).state = .posting
    rw [State.setRing_ring]
    split
    · rfl
    next hnm =>
      rcases List.mem_append.mp hq with hq | hq
      · exact h.listed q hq m hf
      · exact absurd (hr m (List.mem_singleton.mp hq ▸ hf)).symm hnm
  single := by
    refine List.pairwise_append.mpr ⟨h.single, List.pairwise_singleton _ _, fun q hq p hp m hqm hpm => ?_⟩
    have hm : m = n := hr m (List.mem_singleton.mp hp ▸ hpm)
    exact hstate (hm ▸ h.listed q hq m hqm)
  quiet := .inl hserve

/-- The oldest record leaves the list. -/
theorem State.SlotsSound.pop (h : s.SlotsSound) :
    ({ s with fu := { s.fu with posting := s.fu.posting.tail } } : State).SlotsSound where
  rings := h.rings
  listed r hr := h.listed r (List.mem_of_mem_tail hr)
  single := h.single.tail
  quiet := h.quiet.imp id fun ⟨h1, h2, h3⟩ => ⟨h1, by simp [h2], h3⟩

/-! ### The fetch unit -/

theorem State.writeStatus_keeps_slots (h : s.SlotsSound) : s.writeStatus.SlotsSound := h.of_eq rfl rfl rfl rfl

theorem State.writeSubmit_keeps_slots (h : s.SlotsSound) (v : BitVec 32) : (s.writeSubmit v).SlotsSound := by
  unfold State.writeSubmit
  split
  · exact h
  · split
    next htake =>
      obtain ⟨hrun, haccepts⟩ := htake
      simp only [SubRing.accepts, Bool.and_eq_true, decide_eq_true_eq, Bool.or_eq_true, Bool.not_eq_true',
        bne_iff_ne] at haccepts
      obtain ⟨⟨-, hroom⟩, hbusy⟩ := haccepts
      obtain ⟨hstaging, hsize, -, -⟩ := h.rings (submitRing v)
      refine h.setRing ⟨hstaging, hsize, hroom, fun hb => ?_⟩ id (.inl hrun)
      exact hbusy.resolve_left (by simp [hb])
    next => exact h.of_eq rfl rfl rfl rfl

theorem State.issueRingRead_keeps_slots (h : s.SlotsSound) (hmay : s.mayFetch = true)
    (hwants : (s.ring n).wantsFetch = true) : (s.issueRingRead n).SlotsSound := by
  simp only [State.mayFetch, Bool.and_eq_true, beq_iff_eq] at hmay
  simp only [SubRing.wantsFetch, Bool.and_eq_true, beq_iff_eq, bne_iff_ne] at hwants
  obtain ⟨hidle, hne⟩ := hwants
  have hstaging := (h.rings n).staging_none (by simp [hidle, RingState.busy])
  obtain ⟨-, hsize, hroom, -⟩ := h.rings n
  refine State.SlotsSound.of_eq (h.setRing (n := n) (r := { s.ring n with state := .fetching })
    ⟨by simp [hstaging], hsize, hroom, fun _ => hne⟩ ?_ (.inl hmay.1)) rfl rfl rfl rfl
  simp [hidle]

/-- A staged slot, from FETCHING. -/
theorem State.stage_keeps_slots (h : s.SlotsSound) (hfetching : (s.ring n).state = .fetching) (hserve : s.Serving)
    (d : Bytes) {q : RingState} (hq : q.busy = true) (hq' : q ≠ .fetching) : (s.stage n d q).SlotsSound := by
  refine h.setRing ?_ (by simp [hfetching]) hserve
  exact (h.rings n).move (by simp [hfetching, RingState.busy]) (by simp [hq, hq']) rfl rfl rfl

theorem stagedState_busy (d : Bytes) : (stagedState d).busy = true ∧ stagedState d ≠ .fetching := by
  unfold stagedState
  split <;> simp [RingState.busy]

theorem State.takeRingAnswer_keeps_slots (h : s.SlotsSound) (n : Ring) (a : ReadAnswer) :
    (s.takeRingAnswer n a).SlotsSound := by
  unfold State.takeRingAnswer
  split
  next hguard =>
    simp only [Bool.and_eq_true, beq_iff_eq] at hguard
    obtain ⟨hwork, hfetching⟩ := hguard
    have hserve := State.serving_of_working hwork
    cases a with
    | okay d =>
      dsimp only
      unfold State.stageAnswer
      split
      · have hstage := State.stage_keeps_slots h hfetching hserve d (q := .staged) rfl (by simp)
        refine hstage.form ?_ ?_ ?_ hserve
        · simp [State.stage]
        · simp [State.stage]
        · rintro m ⟨-, hsource⟩
          exact (Source.ring.inj hsource).symm
      · exact State.stage_keeps_slots h hfetching hserve d (stagedState_busy d).1 (stagedState_busy d).2
    | busError =>
      dsimp only
      unfold State.ringError
      dsimp only
      refine State.SlotsSound.push ?_ (fun m hf => hf.1 rfl) hserve
      refine State.SlotsSound.of_eq (h.setRing (n := n)
        (r := { s.ring n with state := .error, staging := none }) ?_ (by simp [hfetching]) hserve) rfl rfl rfl rfl
      exact (h.rings n).rest rfl rfl rfl rfl rfl
  next => exact h

theorem State.templateFails_keeps_slots (h : s.SlotsSound) (e : Entry) (tag : BitVec 16) (f : CheckFailure)
    (hserve : s.Serving) : (s.templateFails e tag f).SlotsSound := by
  refine State.SlotsSound.push (h.of_eq rfl rfl rfl rfl) ?_ hserve
  rintro m ⟨-, hsource⟩
  cases hsource

theorem State.takeTemplateAnswer_keeps_slots (h : s.SlotsSound) (e : Entry) (a : ReadAnswer) :
    (s.takeTemplateAnswer e a).SlotsSound := by
  unfold State.takeTemplateAnswer
  split
  next hguard =>
    simp only [Bool.and_eq_true, beq_iff_eq] at hguard
    have hserve := State.serving_of_working hguard.1.1
    cases a with
    | okay d =>
      dsimp only
      split
      · exact h.of_eq rfl rfl rfl rfl
      · exact State.templateFails_keeps_slots h e _ _ hserve
    | busError => exact State.templateFails_keeps_slots h e _ _ hserve
  next => exact h

theorem State.stagedKind_eq_some {k : Kind} {d : Bytes} :
    s.stagedKind n k = some d ↔ s.working = true ∧ (s.ring n).state = .staged ∧ (s.ring n).staging = some d ∧
      descKind d = k.code := by
  simp [State.stagedKind, and_assoc]

/-- The record of a descriptor that stands STAGED, after an effect that leaves rings and list alone. -/
theorem State.SlotsSound.carriedOut {k : Kind} {d : Bytes} {r : Record} (h : s.SlotsSound)
    (hk : s.stagedKind n k = some d) (hrings : t.rings = s.rings) (hposting : t.fu.posting = s.fu.posting)
    (hcu : t.cu = s.cu) (hsource : r.source = .ring n) : (t.formFetchRecord n r).SlotsSound := by
  obtain ⟨hwork, hstate, hstaging, -⟩ := State.stagedKind_eq_some.mp hk
  have hserve := State.serving_of_working hwork
  have hserve' : t.Serving := by
    rw [State.Serving, hcu]
    exact hserve
  have hring := State.ring_of_rings hrings n
  refine (h.of_serving hrings hposting hserve').form (by simp [hring, hstaging]) (by simp [hring, hstate]) ?_ hserve'
  rintro m ⟨-, hm⟩
  exact (Source.ring.inj (hsource.symm.trans hm)).symm

/-- A FENCE whose count is 0 forms its record. -/
theorem State.releaseFence_keeps_slots (h : s.SlotsSound) (hserve : s.Serving) (n : Ring) :
    (s.releaseFence n).SlotsSound := by
  unfold State.releaseFence
  dsimp only
  split
  next hfenced =>
    refine h.form ((h.rings n).1.mpr (by simp [hfenced.1, RingState.busy])) (by simp [hfenced.1]) ?_ hserve
    rintro m ⟨-, hm⟩
    exact (Source.ring.inj hm).symm
  next => exact h

theorem State.blocked_of_candidate {b : Bank} {d : Bytes} (h : s.chooseCandidate b = some (.ring n d)) :
    (s.ring n).state = .blocked := by
  rcases State.chooseCandidate_cases h with ⟨e, he, -⟩ | ⟨-, j, -, -, hj, -⟩
  · obtain ⟨d', -, -, -, hc⟩ := State.scheduleOffers_eq_some.mp he
    cases hc
  · obtain ⟨d', hblocked, -, -, hc⟩ := State.ringOffers_eq_some.mp hj
    obtain ⟨rfl, -⟩ := Candidate.ring.inj hc
    exact hblocked

theorem State.admitCandidate_keeps_slots {b : Bank} {c : Candidate} (h : s.SlotsSound)
    (hc : s.grantable b = some c) : (s.admitCandidate b c).SlotsSound := by
  obtain ⟨hwork, -, hchoose⟩ := State.grantable_eq_some.mp hc
  have hserve := State.serving_of_working hwork
  unfold State.admitCandidate
  cases c with
  | schedule e d =>
    rw [State.admit_schedule]
    split <;> exact h.of_eq (by simp) (by simp) (by simp) (by simp)
  | ring m d =>
    have hblocked := State.blocked_of_candidate hchoose
    have hfinish := h.setRing (n := m)
      (r := { s.ring m with staging := none, consumed := (s.ring m).consumed + 1,
                            outstanding := (s.ring m).outstanding + 1, state := .idle })
      ((h.rings m).finish (by simp [hblocked, RingState.busy]) rfl rfl rfl rfl rfl) (by simp [hblocked]) hserve
    dsimp only
    rw [State.admit_ring]
    split <;> exact hfinish.of_eq (by simp) (by simp) (by simp) (by simp)

theorem State.takeNext_keeps_slots (h : s.SlotsSound) (b : Bank) : (s.takeNext b).SlotsSound := by
  unfold State.takeNext
  split
  · exact h.of_eq (by simp) (by simp) (by simp) (by simp)
  · split
    · exact h
    next hc => exact State.admitCandidate_keeps_slots h hc

/-! ### The posting (08:R130, 08:R131) -/

theorem State.finishSlot_keeps_slots (h : s.SlotsSound) (hposting : (s.ring n).state = .posting)
    (hnone : ∀ q ∈ s.fu.posting, ¬ q.Finishes n) (hserve : s.Serving) : (s.finishSlot n).SlotsSound := by
  refine State.writeStatus_keeps_slots ⟨fun m => ?_, fun q hq m hf => ?_, h.single, .inl hserve⟩
  · rw [State.setRing_ring]
    split
    · exact (h.rings n).finish (by simp [hposting, RingState.busy]) rfl rfl rfl rfl rfl
    · exact h.rings m
  · rw [State.setRing_ring]
    split
    next hnm => exact absurd (hnm ▸ hf) (hnone q hq)
    next => exact h.listed q hq m hf

/-- The oldest record is posted: it leaves the list, and its slot is finished with. -/
theorem State.fetchPosted_keeps_slots {r : Record} (h : s.SlotsSound) (hr : s.fu.posting.head? = some r)
    (hserve : s.Serving) : (s.fetchPosted r).SlotsSound := by
  obtain ⟨l, hl⟩ := List.head?_eq_some_iff.mp hr
  have hpop := h.pop
  unfold State.fetchPosted
  dsimp only
  split
  next => exact hpop
  next n hsource hstatus =>
    have hfin : r.Finishes n := ⟨hstatus, hsource⟩
    refine State.finishSlot_keeps_slots hpop (h.listed r (by simp [hl]) n hfin) (fun q hq => ?_) hserve
    have hsingle := h.single
    rw [hl, List.pairwise_cons] at hsingle
    exact hsingle.1 q (by simpa [hl] using hq) n hfin
  next => exact hpop

theorem State.sourceNotice_keeps_slots (h : s.SlotsSound) (hserve : s.Serving) (src : Source) :
    (s.sourceNotice src).SlotsSound := by
  cases src with
  | schedule e => exact h.of_eq rfl rfl rfl rfl
  | ring n =>
    have hset := h.setRing (n := n) (r := { s.ring n with outstanding := (s.ring n).outstanding - 1 })
      (h.rings n) id hserve
    exact State.releaseFence_keeps_slots hset hserve n

theorem State.postRecord_keeps_slots {g : Granted} (h : s.SlotsSound) (hgrant : s.GrantSound)
    (hg : s.cw.granted = some g) (hserve : s.Serving) : (s.postRecord g).SlotsSound := by
  have hposted : (s.posted g).SlotsSound := h.of_serving rfl rfl hserve
  rw [State.postRecord_eq]
  unfold State.postingNotices
  cases hq : g.requester with
  | bs b =>
    exact (State.sourceNotice_keeps_slots hposted hserve g.record.source).of_eq
      (by simp) (by simp) (by simp) (by simp)
  | fu =>
    have hhead : s.fu.posting.head? = some g.record := by
      have := hgrant.2 g hg
      rwa [hq] at this
    exact (State.fetchPosted_keeps_slots hposted hhead hserve).of_eq (by simp) (by simp) (by simp) (by simp)

theorem State.afterHeader_keeps_slots (h : s.SlotsSound) (hgrant : s.GrantSound) : s.afterHeader.SlotsSound := by
  unfold State.afterHeader
  split
  next hguard =>
    simp only [Bool.and_eq_true] at hguard
    split
    · exact h
    next hg => exact State.postRecord_keeps_slots h hgrant hg (State.serving_of_working hguard.1)
  next => exact h

/-! ### The completion writer -/

theorem State.issueRecord_keeps_slots (h : s.SlotsSound) (hserve : s.Serving) (r : Record) :
    (s.issueRecord r).SlotsSound := by
  obtain ⟨hcu, -, -, -, hposting⟩ := s.issueRecord_view r
  refine h.of_serving (by simp) hposting ?_
  rw [State.Serving, hcu]
  exact hserve

theorem State.grantNext_keeps_slots (h : s.SlotsSound) : s.grantNext.SlotsSound := by
  rcases s.grantNext_cases with heq | ⟨hwork, -, g, -, ⟨-, heq⟩ | ⟨-, heq⟩⟩ <;> rw [heq]
  · exact h
  · have hserve := State.serving_of_working hwork
    exact State.issueRecord_keeps_slots (s := { s with cw := { s.cw with granted := some g } })
      (h.of_eq rfl rfl rfl rfl) hserve _
  · exact h.of_serving rfl rfl (State.serving_of_working hwork)

theorem State.afterFollowing_keeps_slots (h : s.SlotsSound) : s.afterFollowing.SlotsSound := by
  unfold State.afterFollowing
  split
  next hguard =>
    simp only [Bool.and_eq_true] at hguard
    split
    · exact h
    · exact h.of_serving rfl rfl (State.serving_of_working hguard.1.1)
  next => exact h

/-- A stalled record is granted, so the controller serves. -/
theorem State.retestStall_keeps_slots (h : s.SlotsSound) : s.retestStall.SlotsSound := by
  unfold State.retestStall
  split
  next hstalled =>
    have hserve : s.Serving := by
      by_contra hnot
      simpa [hstalled] using (h.quiet_of_not_serving hnot).grant
    split
    · exact h
    next g hg =>
      by_cases hfits : g.record.slotCount ≤ s.cw.free
      · rw [State.spaceCheck_fits s g.record hfits]
        exact State.issueRecord_keeps_slots h hserve _
      · rw [State.spaceCheck_stalls s g.record hfits]
        exact h
  next => exact h

theorem State.writeCqHead_keeps_slots (h : s.SlotsSound) (v : BitVec 32) : (s.writeCqHead v).SlotsSound := by
  have hhead : ({ s with cw := { s.cw with head := cqHeadValue v } } : State).retestStall.SlotsSound :=
    State.retestStall_keeps_slots (h.of_eq rfl rfl rfl rfl)
  have hraise : (s.raise .hostError).SlotsSound := h.of_eq rfl rfl rfl rfl
  unfold State.writeCqHead
  split
  · exact h
  iterate 3
    split
    · exact hhead
    · exact hraise
  all_goals exact hraise

/-! ### Faults, resets and the life cycle -/

theorem State.enterFaulted_keeps_slots (h : s.SlotsSound) (code : FaultCode) (addr : BitVec 16) :
    (s.enterFaulted code addr).SlotsSound := by
  have hring (n : Ring) : (s.enterFaulted code addr).ring n = (s.ring n).fault := by
    simp [State.enterFaulted, State.faultBlocks, State.raise, State.ring, mapAll]
  refine .of_quiet (fun n => ?_) ⟨rfl, rfl, fun n => ?_⟩
  · rw [hring]
    exact (h.rings n).fault
  · rw [hring]
    exact SubRing.fault_not_busy _

theorem State.reportFault_keeps_slots (h : s.SlotsSound) (code : FaultCode) (addr : BitVec 16) :
    (s.reportFault code addr).SlotsSound := by
  unfold State.reportFault
  split
  iterate 3 exact State.enterFaulted_keeps_slots h code addr
  · exact h.of_eq rfl rfl rfl rfl
  all_goals exact h

theorem State.resetBlocks_slots (s : State) : s.resetBlocks.SlotsSound := by
  have hring (n : Ring) : s.resetBlocks.ring n = .reset := by
    simp [State.resetBlocks, State.reset, State.ring]
  refine .of_quiet (fun n => ?_) ⟨rfl, rfl, fun n => ?_⟩
  · rw [hring]
    exact SubRing.reset_sound
  · rw [hring]
    rfl

theorem State.resetIfQuiet_keeps_slots (h : s.SlotsSound) : s.resetIfQuiet.SlotsSound := by
  unfold State.resetIfQuiet
  split
  · exact s.resetBlocks_slots
  · exact h

theorem State.writeSoftReset_keeps_slots (h : s.SlotsSound) (on : Bool) : (s.writeSoftReset on).SlotsSound := by
  unfold State.writeSoftReset
  split
  · exact h
  · exact State.resetIfQuiet_keeps_slots (h.of_serving rfl rfl (.inr (.inr rfl)))

/-- With nothing staged, listed or granted the controller may change its state. -/
theorem State.SlotsSound.quietly (h : s.SlotsSound) (hnot : ¬ s.Serving) (hrings : t.rings = s.rings)
    (hposting : t.fu.posting = s.fu.posting) (hcw : t.cw.grant = s.cw.grant) : t.SlotsSound := by
  obtain ⟨hgrant, hlist, hbusy⟩ := h.quiet_of_not_serving hnot
  refine .of_quiet (fun n => ?_) ⟨hcw.trans hgrant, hposting.trans hlist, fun n => ?_⟩
  · rw [State.ring_of_rings hrings n]
    exact h.rings n
  · rw [State.ring_of_rings hrings n]
    exact hbusy n

theorem State.enterLoading_keeps_slots (h : s.SlotsSound) (hnot : ¬ s.Serving) (r : ReturnState) :
    (s.enterLoading r).SlotsSound := by
  unfold State.enterLoading
  dsimp only
  split
  · exact h.quietly hnot rfl rfl rfl
  · exact State.reportFault_keeps_slots (s := s.beginLoading r) (h.quietly hnot rfl rfl rfl) _ _

theorem RingState.not_busy_of_atRest {q : RingState} (h : q.atRest = true) : q.busy = false := by
  cases q <;> simp_all [RingState.atRest, RingState.busy]

/-- 10:R158. A drained controller has nothing staged, listed or granted. -/
theorem State.drainIfComplete_keeps_slots (h : s.SlotsSound) : s.drainIfComplete.SlotsSound := by
  unfold State.drainIfComplete
  split
  next hdrain =>
    obtain ⟨-, hlist, hrest, -, hgrant, -⟩ := s.drained_iff.mp hdrain.2
    exact .of_quiet h.rings ⟨hgrant, hlist, fun n => RingState.not_busy_of_atRest (hrest n)⟩
  next => exact h

theorem State.enterStopping_keeps_slots (h : s.SlotsSound) : s.enterStopping.SlotsSound := by
  rw [State.enterStopping_eq]
  exact State.drainIfComplete_keeps_slots (s := s.beginStopping) (h.of_serving rfl rfl (.inr (.inl rfl)))

theorem State.writeEnable_keeps_slots (h : s.SlotsSound) (on : Bool) : (s.writeEnable on).SlotsSound := by
  unfold State.writeEnable
  cases hstate : s.cu.state with
  | off | stopped =>
    cases on with
    | true => exact State.enterLoading_keeps_slots h (by simp [State.Serving, hstate]) _
    | false => exact h
  | loading => exact h.of_eq rfl rfl rfl rfl
  | running =>
    cases on with
    | true => exact h
    | false => exact State.enterStopping_keeps_slots h
  | stopping | faulted => cases on <;> exact h.of_eq rfl rfl rfl rfl
  | resetting => exact h

/-- 06:R94. A valid block configures rings that hold no slot. -/
theorem State.endLoading_keeps_slots {d : Bytes} (h : s.SlotsSound) (hnot : ¬ s.Serving)
    (hd : setupFailure d = none) : (s.endLoading d).SlotsSound := by
  obtain ⟨hgrant, hlist, hbusy⟩ := h.quiet_of_not_serving hnot
  have hlist' : (s.endLoading d).fu.posting = [] := hlist
  refine ⟨fun n => ?_, by simp [hlist'], by simp [hlist'], .inl (.inl rfl)⟩
  have hring : (s.endLoading d).ring n = (s.ring n).configure d n := by
    simp [State.endLoading, State.ring]
  rw [hring]
  exact SubRing.configure_sound ((h.rings n).staging_none (hbusy n)) hd n

theorem State.takeSetupAnswer_keeps_slots (h : s.SlotsSound) (a : ReadAnswer) : (s.takeSetupAnswer a).SlotsSound := by
  unfold State.takeSetupAnswer
  split
  next hloading =>
    have hnot : ¬ s.Serving := by simp [State.Serving, hloading]
    split
    · exact h.quietly hnot rfl rfl rfl
    · cases a with
      | busError => exact State.reportFault_keeps_slots h _ _
      | okay d =>
        cases hd : setupFailure d with
        | some off => simp only [hd]; exact State.reportFault_keeps_slots h _ _
        | none => simp only [hd]; exact State.endLoading_keeps_slots h hnot hd
  next => exact h

/-! ### Every command -/

theorem slotAnswer_keeps_slots {f : State → State} (h : s.SlotsSound) (ws : List BusWrite) (code : FaultCode)
    (addr : BitVec 16) (a : WriteAnswer) (hf : (s.setWrites ws).SlotsSound → (f (s.setWrites ws)).SlotsSound) :
    (match a with
      | .okay => f (s.setWrites ws)
      | .busError => (s.setWrites ws).reportFault code addr).SlotsSound := by
  have hset : (s.setWrites ws).SlotsSound := h.of_eq rfl rfl rfl rfl
  cases a with
  | okay => exact hf hset
  | busError => exact State.reportFault_keeps_slots hset _ _

theorem exec_keeps_slots {c : Instr} (hc : ∀ o l v, c ≠ .registerWriteIgnored o l v)
    (hgrant : s.GrantSound) (h : s.SlotsSound) (hstep : exec c s = .next t) : t.SlotsSound := by
  cases c with
  | registerWriteIgnored o l v => exact absurd rfl (hc o l v)
  | settleDelayExpiry | firstEdge | startTimeout | refTimeout | senseWindowClose | bankAbort | eventCause
  | eventMask | conversionClockTick =>
    exact released_keeps hstep h (h.of_eq (by simp) (by simp) (by simp) (by simp))
  | refDone | overflow | countedEdge | scheduleExpiry =>
    refine released_keeps hstep h (h.of_eq ?_ ?_ ?_ ?_) <;> split <;> simp
  | supplySettleEnd =>
    refine released_keeps hstep h ?_
    split
    · exact h.of_eq (by simp) (by simp) (by simp) (by simp)
    · exact h.of_eq (foldl_keeps State.rings State.deliverSome (by simp) _ _)
        (foldl_keeps (·.fu.posting) State.deliverSome (by simp) _ _)
        (foldl_keeps (·.cu.state) State.deliverSome (by simp) _ _)
        (foldl_keeps (·.cw.grant) State.deliverSome (by simp) _ _)
  | lowTransition | comparatorReadsHigh | comparatorReadsLow =>
    cases hstep
    exact h.of_eq (by simp) (by simp) (by simp) (by simp)
  | admission b =>
    refine released_keeps hstep h ?_
    split
    · exact h
    next hc => exact State.admitCandidate_keeps_slots h hc
  | measure b | setBank b =>
    refine released_keeps hstep h ?_
    split
    · exact State.takeNext_keeps_slots h b
    · exact h
  | submit v => exact released_keeps hstep h (State.writeSubmit_keeps_slots h v)
  | ringReadIssue =>
    refine released_keeps hstep h ?_
    split
    next hguard =>
      simp only [Bool.and_eq_true] at hguard
      split
      · exact h
      next n hn => exact State.issueRingRead_keeps_slots h hguard.1 (by simpa using List.find?_some hn)
    next => exact h
  | templateReadIssue =>
    refine released_keeps hstep h ?_
    split
    · split
      · exact h
      · exact h.of_eq rfl rfl rfl rfl
    · exact h
  | ringReadAnswer a =>
    refine released_keeps hstep h ?_
    split
    · exact State.takeRingAnswer_keeps_slots (s := s.setRead none) (h.of_eq rfl rfl rfl rfl) _ a
    · exact h
  | templateReadAnswer a =>
    refine released_keeps hstep h ?_
    split
    · exact State.takeTemplateAnswer_keeps_slots (s := s.setRead none) (h.of_eq rfl rfl rfl rfl) _ a
    · exact h
  | invalidateRef n | reportRefs n | setSupply n | setSchedule n | clearSchedule n =>
    refine released_keeps hstep h ?_
    split
    · exact h
    next hk => exact h.carriedOut hk (by simp) (by simp) (by simp) rfl
  | fence n =>
    refine released_keeps hstep h ?_
    split
    · exact h
    next hk =>
      obtain ⟨hwork, hstate, hstaging, -⟩ := State.stagedKind_eq_some.mp hk
      have hserve := State.serving_of_working hwork
      have hset := h.setRing (n := n)
        (r := { s.ring n with state := .fenced, fenceCount := (s.ring n).outstanding })
        ((h.rings n).move (by simp [hstate, RingState.busy]) (by simp [hstaging, RingState.busy]) rfl rfl rfl)
        (by simp [hstate]) hserve
      exact State.releaseFence_keeps_slots hset hserve n
  | statusWriteAnswer a =>
    refine released_keeps hstep h ?_
    split
    · exact h
    · exact slotAnswer_keeps_slots (f := id) h _ _ _ a id
  | cqGrant => exact released_keeps hstep h (State.grantNext_keeps_slots h)
  | followingSlotWriteAnswer k a =>
    refine released_keeps hstep h ?_
    split
    · exact h
    · exact slotAnswer_keeps_slots (f := State.afterFollowing) h _ _ _ a State.afterFollowing_keeps_slots
  | headerWriteAnswer a =>
    refine released_keeps hstep h ?_
    split
    · exact h
    · exact slotAnswer_keeps_slots (f := State.afterHeader) h _ _ _ a fun hs =>
        State.afterHeader_keeps_slots hs hgrant
  | cqHead v => exact released_keeps hstep h (State.writeCqHead_keeps_slots h v)
  | enable on => exact released_keeps hstep h (State.writeEnable_keeps_slots h on)
  | softReset on => exact released_keeps hstep h (State.writeSoftReset_keeps_slots h on)
  | setupAddrLo v | setupAddrHi v =>
    refine released_keeps hstep h (h.of_eq (by simp) (by simp) ?_ (by simp))
    simp only [State.writeSetupAddrLo, State.writeSetupAddrHi, State.writeSetupAddr]
    split <;> rfl
  | setupReadAnswer a =>
    refine released_keeps hstep h ?_
    split
    · exact h
    · exact State.takeSetupAnswer_keeps_slots (s := s.clearSetupRead) (h.of_eq rfl rfl rfl rfl) a
  | drainComplete => exact released_keeps hstep h (State.drainIfComplete_keeps_slots h)
  | softResetComplete => exact released_keeps hstep h (State.resetIfQuiet_keeps_slots h)
  | resetNAsserted =>
    cases hstep
    exact s.resetBlocks_slots.of_eq rfl rfl rfl rfl
  | resetNReleased =>
    cases hstep
    exact h.of_eq rfl rfl rfl rfl

theorem exec_keeps_rings (c : Instr) (s t : State) (hc : ∀ o l v, c ≠ .registerWriteIgnored o l v)
    (h : s.RingsSound) (hstep : exec c s = .next t) : t.RingsSound := by
  obtain ⟨hgrant, hslots⟩ := s.ringsSound_iff.mp h
  refine t.ringsSound_iff.mpr ⟨?_, exec_keeps_slots hc hgrant hslots hstep⟩
  exact (exec_changes (G := True) hc (fun _ => hgrant) hstep).keeps (fun _ _ hchange => hchange.keeps_grant) hgrant

/-- Settles O58: the grant by the changes of a command, the rings and the posting list command by command. -/
theorem stepKeepsRingsSound : Obligations.StepKeepsRingsSound :=
  step_keeps (fun _ _ h => h) (exec_keeps exec_keeps_rings)

/-- Settles O60: the reset values, block by block. -/
theorem resetStateIsSound : Obligations.ResetStateIsSound := by
  have hgrant : State.reset.GrantSound := .of_none rfl rfl
  have hbank (b : Bank) : State.reset.bank b = .reset := by simp [State.reset, State.bank]
  have hbanks : State.reset.BanksSound := fun b => hbank b ▸ BankSeq.reset_sound
  have href (b : Bank) (r : Ref) : State.reset.ref b r = .reset := by
    simp only [State.reset, State.ref]
    fin_cases b <;> cases r <;> rfl
  have hholder (b : Bank) : State.reset.sm.holders[b] = none := by simp [State.reset, SupplyMonitor.reset]
  refine ⟨hbanks, ⟨hbanks, hgrant, fun b r => ?_⟩, ⟨hbanks, hgrant, .off rfl rfl hholder, fun _ b => ?_⟩, ?_, ?_⟩
  · rw [href, hbank]
    simp [RefEntry.MarksSound, RefEntry.reset, BankSeq.reset]
  · rw [hbank, State.holder, hholder]
    simp [SeqState.HasHold, BankSeq.reset]
  · exact State.reset.ringsSound_iff.mpr ⟨hgrant, State.resetBlocks_slots State.reset⟩
  · exact State.resetBlocks_completion State.reset

end Sys2Proof.Machine
end

section
/-! PROOFS. The tick of the conversion clock (01 section 1.4 to 1.6, 05 section 5.2, 11 section 11.4), and the
arithmetic of a channel (01 section 1.9). -/
namespace Sys2Proof.Machine

open Sys2Proof

/-! ### The time base (11:R169) -/

theorem State.tickTimeBase_of_lt {s : State} (h : s.tb.prescaler < 31) :
    s.tickTimeBase = { s with tb := { s.tb with prescaler := s.tb.prescaler + 1 } } :=
  if_neg (by simp only [ticksPerMicro]; omega)

theorem State.tickTimeBase_of_last {s : State} (h : ¬ s.tb.prescaler < 31) : s.tickTimeBase = s.stepMicros :=
  if_pos (by simp only [ticksPerMicro]; omega)

/-- 11:R169. The prescaler steps, or starts over with the microsecond counter. -/
theorem State.tickTimeBase_tb (s : State) :
    s.tickTimeBase.tb = if s.tb.prescaler < 31 then { s.tb with prescaler := s.tb.prescaler + 1 }
      else { micros := s.tb.micros + 1, prescaler := 0 } := by
  split
  next h => rw [State.tickTimeBase_of_lt h]
  next h =>
    rw [State.tickTimeBase_of_last h]
    rfl

theorem State.tick_tb (s : State) :
    s.tick.tb = if s.tb.prescaler < 31 then { s.tb with prescaler := s.tb.prescaler + 1 }
      else { micros := s.tb.micros + 1, prescaler := 0 } := by
  have hfound : s.takeDue.deliverAll.tickCells.tb = s.tb := by simp
  rw [State.tick, State.tickTimeBase_tb, hfound]

/-- A tick released from reset is the command of the clock. -/
theorem exec_conversionClockTick {s : State} (hr : s.resetAsserted = false) :
    exec .conversionClockTick s = .next s.tick :=
  congrArg Host.Outcome.next (whenReleased_eq (f := State.tick) hr)

/-- The prescaler and the counter count together: one tick more moves the quotient and the remainder of 32 by one. -/
theorem State.tick_iterate_tb (n : Nat) : ∀ s : State, s.tb.prescaler < 32 →
    (State.tick^[n] s).tb = {
      micros := s.tb.micros + BitVec.ofNat 32 ((s.tb.prescaler + n) / 32),
      prescaler := (s.tb.prescaler + n) % 32 } := by
  induction n with
  | zero =>
    intro s hs
    have hdiv : s.tb.prescaler / 32 = 0 := by omega
    have hmod : s.tb.prescaler % 32 = s.tb.prescaler := by omega
    simp [hdiv, hmod]
  | succ n ih =>
    intro s hs
    rw [Function.iterate_succ_apply]
    have htick := s.tick_tb
    by_cases hp : s.tb.prescaler < 31
    · rw [if_pos hp] at htick
      rw [ih s.tick (by rw [htick]; dsimp only; omega), htick]
      dsimp only
      rw [show s.tb.prescaler + 1 + n = s.tb.prescaler + (n + 1) by omega]
    · rw [if_neg hp] at htick
      rw [ih s.tick (by rw [htick]; exact Nat.zero_lt_succ 31), htick]
      dsimp only
      have hlast : s.tb.prescaler = 31 := by omega
      have hdiv : (31 + (n + 1)) / 32 = 1 + n / 32 := by omega
      have hmod : (31 + (n + 1)) % 32 = n % 32 := by omega
      rw [hlast, hdiv, hmod, Nat.zero_add, BitVec.ofNat_add, ← BitVec.add_assoc]
      rfl

/-- Settles O10: by induction on the ticks. -/
theorem microsecondEveryThirtyTwoTicks : Obligations.MicrosecondEveryThirtyTwoTicks :=
  fun n s hr hp => ⟨State.tick_iterate_tb n s hp, exec_conversionClockTick hr⟩

/-! ### What a tick takes first -/

/-- What a command answers; itself where it answers none. -/
def runCommand (c : Instr) (s : State) : State :=
  match exec c s with
  | .next t => t
  | _ => s

theorem runCommand_of_next {c : Instr} {s t : State} (h : exec c s = .next t) : runCommand c s = t := by
  simp only [runCommand, h]

/-- The expiry of bank `b`'s cell that its state can have. -/
def State.cellExpiry (s : State) (b : Bank) : State :=
  match (s.cell b).state with
  | .stopped => s
  | .settling => runCommand (.settleDelayExpiry b) s
  | .awaitEdge => runCommand (.startTimeout b) s
  | .refWindow => runCommand (.refTimeout b) s
  | .senseWindow => runCommand (.senseWindowClose b) s

theorem State.dueAtCell_eq {s : State} (hr : s.resetAsserted = false) (b : Bank) :
    s.dueAtCell b = s.cellExpiry b := by
  unfold State.dueAtCell State.cellExpiry
  cases (s.cell b).state with
  | stopped => rfl
  | settling => exact (runCommand_of_next (congrArg _ (whenReleased_eq hr))).symm
  | awaitEdge => exact (runCommand_of_next (congrArg _ (whenReleased_eq hr))).symm
  | refWindow => exact (runCommand_of_next (congrArg _ (whenReleased_eq hr))).symm
  | senseWindow => exact (runCommand_of_next (congrArg _ (whenReleased_eq hr))).symm

theorem State.supplySettleEnd_of_not_due {s : State} (h : s.sm.settleEndDue = false) : s.supplySettleEnd = s := by
  simp [State.supplySettleEnd, h]

theorem State.supplySettleEnd_eq {s : State} (hr : s.resetAsserted = false) :
    s.supplySettleEnd = if s.sm.settleEndDue then runCommand .supplySettleEnd s else s := by
  split
  next hdue =>
    refine (runCommand_of_next (congrArg _ ((whenReleased_eq hr).trans ?_))).symm
    simp only [hdue, if_true]
  next hdue => exact State.supplySettleEnd_of_not_due (by simpa using hdue)

theorem State.dueAtEntry_eq {s : State} (hr : s.resetAsserted = false) (e : Entry) :
    s.dueAtEntry e = runCommand (.scheduleExpiry e) s :=
  (runCommand_of_next ((exec_scheduleExpiry e s).trans (congrArg _ (whenReleased_eq hr)))).symm

/-- Each expiry that is due is taken as its command takes it. -/
theorem State.takeDue_eq {s : State} (hr : s.resetAsserted = false) :
    let cells := (List.finRange 4).foldl State.cellExpiry s
    let settled := if cells.sm.settleEndDue then runCommand .supplySettleEnd cells else cells
    s.takeDue = (List.finRange 8).foldl (fun u e => runCommand (.scheduleExpiry e) u) settled := by
  dsimp only
  obtain ⟨hcells, hcr⟩ := foldl_congr_of_inv (I := fun u => u.resetAsserted = false)
    (fun u b hu => State.dueAtCell_eq hu b) (fun u b hu => by simpa using hu) (List.finRange 4) s hr
  rw [← hcells, ← State.supplySettleEnd_eq hcr, State.takeDue]
  exact (foldl_congr_of_inv (I := fun u => u.resetAsserted = false)
    (fun u e hu => State.dueAtEntry_eq hu e) (fun u e hu => by simpa using hu) (List.finRange 8) _
    (by simpa using hcr)).1

/-- A fold of which no step changes the state. -/
theorem foldl_id {α : Type} {f : State → α → State} {s : State} (h : ∀ a, f s a = s) (l : List α) :
    l.foldl f s = s := by
  induction l with
  | nil => rfl
  | cons a l ih => rw [List.foldl_cons, h a, ih]

theorem State.dueAtCell_of_not_due {s : State} {b : Bank} (h : (s.cell b).settleDue = false)
    (h' : (s.cell b).startTimeoutDue = false) (h'' : (s.cell b).refTimeoutDue = false)
    (h''' : (s.cell b).senseCloseDue = false) : s.dueAtCell b = s := by
  unfold State.dueAtCell
  split
  · rfl
  · simp [State.settleExpiry, h]
  · simp [State.startTimeoutExpiry, h']
  · simp [State.refWindowTimeout, h'']
  · simp [State.senseClose, h''']

theorem State.takeDue_of_none {s : State}
    (hcells : ∀ b, (s.cell b).settleDue = false ∧ (s.cell b).startTimeoutDue = false ∧
      (s.cell b).refTimeoutDue = false ∧ (s.cell b).senseCloseDue = false)
    (hsettle : s.sm.settleEndDue = false) (hentries : ∀ e, s.expiryDue e = false) : s.takeDue = s := by
  have hcell (b : Bank) : s.dueAtCell b = s := by
    obtain ⟨h1, h2, h3, h4⟩ := hcells b
    exact State.dueAtCell_of_not_due h1 h2 h3 h4
  rw [State.takeDue, foldl_id hcell, State.supplySettleEnd_of_not_due hsettle]
  exact foldl_id (fun e => State.dueAtEntry_of_not_due (by simp [hentries e])) _

/-! ### Messages in flight -/

theorem State.holdGranted_eq (s : State) (b : Bank) :
    s.holdGranted b = (s.holder b).any (fun h => h.status == .granted) := by
  unfold State.holdGranted
  cases s.holder b <;> rfl

theorem State.grantDue_iff (s : State) (b : Bank) :
    s.grantDue b = true ↔ (s.cu.state = .running ∨ s.cu.state = .stopping) ∧ (s.bank b).seq = .starting ∧
      (s.holder b).any (fun h => h.status == .granted) = true := by
  simp only [State.grantDue, State.working, State.holdGranted_eq, Bool.and_eq_true, Bool.or_eq_true, beq_iff_eq,
    and_assoc]

/-- The notice, the end and the grant of one bank, each if it is in flight. -/
theorem State.deliverBank_eq (s : State) (b : Bank) :
    s.deliverBank b =
      let v : State := if s.refs[b].noticeDue then
          { s with refs := s.refs.set b { s.refs[b] with noticeDue := false } }.supplyLowNotice b
        else s
      let w := v.deliverEnd b
      if (w.cu.state = .running ∨ w.cu.state = .stopping) ∧ (w.bank b).seq = .starting ∧
          (w.holder b).any (fun h => h.status == .granted) = true then w.takeGrant b else w := by
  rw [State.deliverBank, State.deliverGrant, ← State.deliverNotice_eq]
  exact if_congr (State.grantDue_iff _ b) rfl rfl

theorem State.deliverBank_of_none {s : State} {b : Bank} (hnotice : s.refs[b].noticeDue = false)
    (hend : s.endInFlight b = none)
    (hgrant : ¬ ((s.bank b).seq = .starting ∧ (s.holder b).any (fun h => h.status == .granted) = true)) :
    s.deliverBank b = s := by
  have hdue : s.grantDue b = false := by
    rw [Bool.eq_false_iff, Ne, State.grantDue_iff]
    exact fun h => hgrant h.2
  rw [State.deliverBank, State.deliverNotice_of_none hnotice, State.deliverEnd_none hend]
  simp [State.deliverGrant, hdue]

/-! ### The timers -/

theorem Cell.tick_eq (c : Cell) :
    c.tick = if c.state = .stopped then c
      else if c.state = .senseWindow then { c with gateTimer := c.gateTimer - 1 }
      else { c with gateTimer := c.gateTimer + 1 } := by
  unfold Cell.tick
  cases hs : c.state <;> simp

/-- After what was due and in flight, the timers move and nothing else does. -/
theorem State.tick_eq (s : State) :
    let t := s.takeDue.deliverAll
    s.tick = { t with
      cells := t.cells.map fun c =>
        if c.state = .stopped then c
        else if c.state = .senseWindow then { c with gateTimer := c.gateTimer - 1 }
        else { c with gateTimer := c.gateTimer + 1 }
      tb := if s.tb.prescaler < 31 then { s.tb with prescaler := s.tb.prescaler + 1 }
        else { micros := s.tb.micros + 1, prescaler := 0 }
      sm := if 31 ≤ s.tb.prescaler ∧ t.sm.state = .settling then
        { t.sm with settleTimer := t.sm.settleTimer + 1 } else t.sm } := by
  dsimp only
  have htb : s.takeDue.deliverAll.tb = s.tb := by simp
  have hcells : Cell.tick = fun c : Cell =>
        if c.state = .stopped then c
        else if c.state = .senseWindow then { c with gateTimer := c.gateTimer - 1 }
        else { c with gateTimer := c.gateTimer + 1 } := funext Cell.tick_eq
  rw [← htb, ← hcells, State.tick]
  generalize s.takeDue.deliverAll = t
  by_cases h : t.tb.prescaler < 31
  · have hlast : ¬ (31 ≤ t.tb.prescaler ∧ t.sm.state = .settling) := fun hn => by omega
    rw [State.tickTimeBase_of_lt (s := t.tickCells) h, if_pos h, if_neg hlast]
    simp [State.tickCells]
  · have hlast : 31 ≤ t.tb.prescaler := by omega
    rw [State.tickTimeBase_of_last (s := t.tickCells) h, if_neg h]
    simp only [hlast, true_and, State.stepMicros, State.tickCells, mapAll_eq_map]

/-- Settles O9: the tick is the expiries due, the messages in flight and the timers, in that order. -/
theorem tickAdvancesTimers : Obligations.TickAdvancesTimers := by
  refine ⟨fun s hr => ?_, fun s hr => State.takeDue_eq hr, fun s => State.takeDue_of_none,
    fun s => ⟨?_, fun hrun hstop b => ?_, fun hnone => ?_⟩⟩
  · rw [exec_conversionClockTick hr, State.tick_eq]
  · rw [State.deliverAll, funext fun u => funext fun b => State.deliverBank_eq u b]
  · exact State.deliverEnd_none (State.endInFlight_idle (State.not_working hrun hstop) b)
  · refine foldl_id (fun b => ?_) _
    obtain ⟨hnotice, hend, hgrant⟩ := hnone b
    exact State.deliverBank_of_none hnotice hend hgrant

/-! ### The arithmetic of a channel (01 section 1.9) -/

theorem ratioSaturates_zero (n : BitVec 16) (sum : Nat) : ratioSaturates n 0 sum = false := by
  simp [ratioSaturates]

theorem channelRatio_zero (n : BitVec 16) (sum : Nat) : channelRatio n 0 sum = 0 := by
  simp [channelRatio]

section

variable {n : BitVec 16} {k sum : Nat}

/-- 01:R21. -/
theorem ratio_of_saturated (hk : k ≠ 0) (h : 65536 * sum ≤ n.toNat * k) :
    channelRatio n k sum = 4294967295 ∧ ratioSaturates n k sum = true := by
  have hsat : ratioSaturates n k sum = true := by simp [ratioSaturates, Nat.pos_of_ne_zero hk, h]
  exact ⟨by simp [channelRatio, hk, hsat, ratioMax], hsat⟩

/-- 01:R20. -/
theorem ratio_of_exact (hk : k ≠ 0) (h : n.toNat * k < 65536 * sum) :
    channelRatio n k sum = n.toNat * k * 65536 / sum ∧ ratioSaturates n k sum = false := by
  have hsat : ratioSaturates n k sum = false := by simp [ratioSaturates, Nat.not_le.mpr h]
  exact ⟨by simp [channelRatio, hk, hsat], hsat⟩

theorem floor_le_ratioMax (h : n.toNat * k < 65536 * sum) : n.toNat * k * 65536 / sum ≤ 4294967295 := by
  have hsum : 0 < sum := by omega
  refine Nat.le_of_lt_succ ((Nat.div_lt_iff_lt_mul hsum).mpr ?_)
  omega

/-- With every good count at least 4 the exact quotient is at most 65,535 × 16,384. -/
theorem floor_le_of_counts (hk : k ≠ 0) (h : 4 * k ≤ sum) : n.toNat * k * 65536 / sum ≤ 1073725440 := by
  have hn : n.toNat ≤ 65535 := by omega
  have hsum : 0 < sum := by omega
  have hnk : n.toNat * k ≤ 65535 * k := Nat.mul_le_mul_right k hn
  refine Nat.le_of_lt_succ ((Nat.div_lt_iff_lt_mul hsum).mpr ?_)
  omega

theorem counts_not_saturated (hk : k ≠ 0) (h : 4 * k ≤ sum) : n.toNat * k < 65536 * sum := by
  have hn : n.toNat ≤ 65535 := by omega
  have hnk : n.toNat * k ≤ 65535 * k := Nat.mul_le_mul_right k hn
  omega

end

/-- The counts of a list entry after its judged samples. -/
structure Accumulator.Counts (a : Accumulator) (samples : Nat) : Prop where
  counted : a.good + a.rejected = samples
  least : 4 * a.good ≤ a.sum
  most : a.sum ≤ 16777215 * a.good

theorem Accumulator.Counts.add {a : Accumulator} {m : Nat} {j : Except Rejection Nat} (h : a.Counts m)
    (hj : ∀ n, j = .ok n → 4 ≤ n ∧ n ≤ 16777215) : (a.add j).Counts (m + 1) := by
  obtain ⟨hcounted, hleast, hmost⟩ := h
  cases j with
  | ok n =>
    obtain ⟨hlow, hhigh⟩ := hj n rfl
    constructor <;> simp only [Accumulator.add] <;> omega
  | error r => constructor <;> simp only [Accumulator.add] <;> omega

theorem Accumulator.Counts.foldl (js : List (Except Rejection Nat)) : ∀ {a : Accumulator} {m : Nat}, a.Counts m →
    (∀ n, .ok n ∈ js → 4 ≤ n ∧ n ≤ 16777215) → (js.foldl Accumulator.add a).Counts (m + js.length) := by
  induction js with
  | nil => exact fun h _ => h
  | cons j js ih =>
    intro a m h hjs
    rw [List.foldl_cons, List.length_cons, show m + (js.length + 1) = m + 1 + js.length by omega]
    exact ih (h.add fun n hn => hjs n (hn ▸ List.mem_cons_self)) fun n hn => hjs n (List.mem_cons_of_mem _ hn)

/-- Settles O12: the exact floor below 01:R21's condition and the saturation from it on; the counts by induction on the
samples. -/
theorem channelArithmeticExact : Obligations.ChannelArithmeticExact := by
  refine ⟨fun n k sum _ hleast _ _ => ?_, fun n k sum => ⟨?_, ratio_of_saturated, fun hk h => ?_⟩, fun js hjs => ?_⟩
  · by_cases hk : k = 0
    · subst hk
      simp [channelRatio_zero, ratioSaturates_zero]
    · obtain ⟨hratio, hsat⟩ := ratio_of_exact hk (counts_not_saturated (n := n) hk hleast)
      exact ⟨by rw [hratio, if_neg hk], hratio ▸ floor_le_of_counts hk hleast, hsat⟩
  · rintro rfl
    exact ⟨channelRatio_zero n sum, ratioSaturates_zero n sum⟩
  · obtain ⟨hratio, hsat⟩ := ratio_of_exact hk h
    exact ⟨hratio, hratio ▸ floor_le_ratioMax h, hsat⟩
  · have hzero : Accumulator.zero.Counts 0 := ⟨rfl, Nat.le_refl _, Nat.le_refl _⟩
    obtain ⟨hcounted, hleast, hmost⟩ := Accumulator.Counts.foldl js hzero hjs
    exact ⟨by omega, hleast, hmost, fun hlen => by omega⟩

end Sys2Proof.Machine
end

section
/-! PROOFS. The moves of AVDD (05 sections 5.1 and 5.4). -/
namespace Sys2Proof.Machine

open Sys2Proof

/-! ### The notices of a low transition (05:R89) -/

theorem State.noticeGranted_eq (s : State) :
    s.noticeGranted = { s with refs := s.noticeGranted.refs, draws := s.noticeGranted.draws } := by
  refine State.eq_but_refs (s := { s with draws := s.noticeGranted.draws }) ?_ ?_ ?_ ?_ ?_ ?_
    ?_ ?_ ?_ ?_ ?_ ?_ ?_ rfl ?_
  all_goals simp

/-- A notice reaches both entries of its bank, or stays in flight (log 6). -/
theorem State.sendNotice_pair (s : State) (b : Bank) :
    (s.sendNotice b).refs[b] =
        { s.refs[b] with entryA := (s.ref b .a).supplyLow, entryB := (s.ref b .b).supplyLow } ∨
      (s.sendNotice b).refs[b] = { s.refs[b] with noticeDue := true } := by
  rcases s.sendNotice_cases b with h | h <;> rw [h]
  · exact .inl (by simp [State.supplyLowNotice, State.setRef, RefPair.setEntry, State.ref, RefPair.entry])
  · exact .inr (by simp [State.holdNotice])

theorem State.sendNotice_pair_of_ne (s : State) {b c : Bank} (h : b ≠ c) : (s.sendNotice b).refs[c] = s.refs[c] := by
  have hval : b.val ≠ c.val := fun e => h (Fin.ext e)
  rcases s.sendNotice_cases b with heq | heq <;> rw [heq]
  · simp [State.supplyLowNotice, State.setRef, hval]
  · simp [State.holdNotice, hval]

/-- A fold over banks whose steps reach their own bank's entries only. -/
theorem foldl_pair {f : State → Bank → State} (hother : ∀ s b c, b ≠ c → (f s b).refs[c] = s.refs[c]) (b : Bank)
    (l : List Bank) : l.Nodup → ∀ s : State,
      (b ∉ l → (l.foldl f s).refs[b] = s.refs[b]) ∧
      (b ∈ l → ∃ u : State, u.refs[b] = s.refs[b] ∧ (l.foldl f s).refs[b] = (f u b).refs[b]) := by
  induction l with
  | nil => exact fun _ s => ⟨fun _ => rfl, fun h => by simp at h⟩
  | cons a l ih =>
    intro hnodup s
    obtain ⟨hnot, hl⟩ := List.nodup_cons.mp hnodup
    obtain ⟨hout, hin⟩ := ih hl (f s a)
    refine ⟨fun hb => ?_, fun hb => ?_⟩
    · rw [List.mem_cons, not_or] at hb
      exact (hout hb.2).trans (hother s a b (Ne.symm hb.1))
    · rcases List.mem_cons.mp hb with rfl | hb'
      · exact ⟨s, rfl, hout hnot⟩
      · obtain ⟨u, hu, hfold⟩ := hin hb'
        exact ⟨u, hu.trans (hother s a b fun e => hnot (e ▸ hb')), hfold⟩

theorem State.noticeGranted_pair (s : State) (b : Bank) :
    (s.holdGranted b = false → s.noticeGranted.refs[b] = s.refs[b]) ∧
    (s.holdGranted b = true →
      s.noticeGranted.refs[b] =
          { s.refs[b] with entryA := (s.ref b .a).supplyLow, entryB := (s.ref b .b).supplyLow } ∨
        s.noticeGranted.refs[b] = { s.refs[b] with noticeDue := true }) := by
  have hother (u : State) (a c : Bank) (hac : a ≠ c) :
      (if s.holdGranted a then u.sendNotice a else u).refs[c] = u.refs[c] := by
    split
    · exact u.sendNotice_pair_of_ne hac
    · rfl
  obtain ⟨u, hu, hfold⟩ := (foldl_pair hother b (List.finRange 4) (List.nodup_finRange 4) s).2 (List.mem_finRange b)
  have hpair : s.noticeGranted.refs[b] = (if s.holdGranted b then u.sendNotice b else u).refs[b] := hfold
  refine ⟨fun h => ?_, fun h => ?_⟩
  · rw [hpair, h]
    exact hu
  · have href (r : Ref) : u.ref b r = s.ref b r := congrArg (RefPair.entry · r) hu
    rw [hpair, h, if_pos rfl, ← hu, ← href, ← href]
    exact u.sendNotice_pair b

/-! ### A low transition marks the granted holders -/

theorem State.markGranted_holder (s : State) (b : Bank) :
    ({ s with sm := s.sm.markGranted } : State).holder b = (s.holder b).map fun h =>
      if h.status = .granted then { h with lowSeen := true } else h := by
  have hget : ({ s with sm := s.sm.markGranted } : State).holder b = (s.holder b).map Holder.lowTransition := by
    simp [State.holder, SupplyMonitor.markGranted]
  exact hget

theorem State.markGranted_holdGranted (s : State) (b : Bank) :
    ({ s with sm := s.sm.markGranted } : State).holdGranted b = (s.holder b).any (fun h => h.status == .granted) := by
  rw [State.holdGranted_eq, State.markGranted_holder]
  cases s.holder b with
  | none => rfl
  | some h =>
    simp only [Option.map_some, Option.any_some]
    split <;> rfl

/-- 05:R89. -/
theorem State.lowTransitionEffects_spec (s : State) :
    let t := s.lowTransitionEffects
    t = { s with sm := t.sm, refs := t.refs, draws := t.draws, eu := { s.eu with cause := s.eu.cause ||| 8 } } ∧
    t.sm = { s.sm with holders := t.sm.holders } ∧
    (∀ b, t.holder b = (s.holder b).map fun h => if h.status = .granted then { h with lowSeen := true } else h) ∧
    ∀ b,
      ((s.holder b).any (fun h => h.status == .granted) = false → t.refs[b] = s.refs[b]) ∧
      ((s.holder b).any (fun h => h.status == .granted) = true →
        t.refs[b] = { s.refs[b] with entryA := (s.ref b .a).supplyLow, entryB := (s.ref b .b).supplyLow } ∨
        t.refs[b] = { s.refs[b] with noticeDue := true }) := by
  have heq := State.noticeGranted_eq { s with sm := s.sm.markGranted }
  have hsm : s.lowTransitionEffects.sm = s.sm.markGranted := congrArg State.sm heq
  refine ⟨?_, hsm ▸ rfl, fun b => ?_, fun b => ?_⟩
  · have hrefs : s.lowTransitionEffects.refs = ({ s with sm := s.sm.markGranted } : State).noticeGranted.refs := rfl
    have hdraws : s.lowTransitionEffects.draws = ({ s with sm := s.sm.markGranted } : State).noticeGranted.draws := rfl
    rw [hsm, hrefs, hdraws, State.lowTransitionEffects]
    exact congrArg (State.raise · .supplyLow) heq
  · rw [← State.markGranted_holder]
    exact congrArg (fun m : SupplyMonitor => m.holders[b]) hsm
  · rw [← State.markGranted_holdGranted]
    exact State.noticeGranted_pair { s with sm := s.sm.markGranted } b

/-! ### The three commands -/

theorem exec_avdd {c : Instr} {mv : Nat}
    (h : c = .lowTransition mv ∨ c = .comparatorReadsHigh mv ∨ c = .comparatorReadsLow mv) (s : State) :
    exec c s = .next (s.pinAvdd mv) := by
  rcases h with rfl | rfl | rfl <;> rfl

/-- A move that is no low transition. -/
theorem State.pinAvdd_quiet {s : State} {mv : Nat} (hr : s.resetAsserted = false)
    (h : ¬ (s.sm.state = .watching ∧ s.sm.reading = some .high ∧ mv < thresholdMv s.sm.level)) :
    s.pinAvdd mv = { s with avdd := mv, sm := { s.sm with reading := s.sm.readingAt mv } } := by
  rcases s.pinAvdd_cases mv hr with ⟨h1, h2, h3, -⟩ | ⟨-, heq⟩
  · exact absurd ⟨h1, h2, h3⟩ h
  · exact heq

/-- Settles O25: a low transition marks and notifies; every other move moves the level and the reading, by where AVDD
stands to the threshold. -/
theorem comparatorEvents : Obligations.ComparatorEvents := by
  refine ⟨fun c mv s hc hr hwatch hhigh hmv => ?_, fun c mv s hc hr => ?_⟩
  · rcases s.pinAvdd_cases mv hr with ⟨-, -, -, heq⟩ | ⟨hnot, -⟩
    · have hread : s.sm.readingAt mv = some .low := SupplyMonitor.readingAt_low _ mv (by simp [hwatch]) hmv
      have hset : s.setAvdd mv = { s with avdd := mv, sm := { s.sm with reading := some .low } } := by
        rw [State.setAvdd, hread]
      obtain ⟨hrest, hsm, hholders, hrefs⟩ := (s.setAvdd mv).lowTransitionEffects_spec
      refine ⟨s.pinAvdd mv, exec_avdd hc s, ?_, ?_, ?_, ?_⟩ <;> rw [heq]
      · rw [hset] at hrest ⊢
        exact hrest
      · rw [hset] at hsm ⊢
        exact hsm
      · exact hholders
      · exact hrefs
    · exact absurd ⟨hwatch, hhigh, hmv⟩ hnot
  · rw [exec_avdd hc]
    dsimp only
    refine ⟨fun hon hmv => ?_, fun hon hlow hmv => ?_, fun hstate hmv => ?_, fun hoff => ?_⟩
    · rw [State.pinAvdd_quiet hr (fun h => by have := h.2.2; simp only [thresholdMv] at this; omega),
        SupplyMonitor.readingAt_high _ mv hon hmv]
    · rw [State.pinAvdd_quiet hr (fun h => by have := h.2.2; simp only [thresholdMv] at this; omega),
        SupplyMonitor.readingAt_between _ mv hlow hmv]
    · have hon : s.sm.state ≠ .off := by
        rcases hstate with h | ⟨h, -⟩ <;> simp [h]
      have hquiet : ¬ (s.sm.state = .watching ∧ s.sm.reading = some .high ∧ mv < thresholdMv s.sm.level) := by
        rintro ⟨hw, hh, -⟩
        rcases hstate with h | ⟨-, h⟩
        · simp [h] at hw
        · simp [h] at hh
      rw [State.pinAvdd_quiet hr hquiet, SupplyMonitor.readingAt_low _ mv hon hmv]
    · rw [State.pinAvdd_quiet hr (fun h => by simp [hoff] at h), SupplyMonitor.readingAt_off _ mv hoff]

end Sys2Proof.Machine
end

section
/-! PROOFS. The fetch arbiter (06:R97, 06:R98), the completion grant and its writes (08 sections 8.1 to 8.4), the drain
(10:R158) and the end of LOADING (10:R153 to 10:R155). -/
namespace Sys2Proof.Machine

open Sys2Proof

/-! ### Commands that find nothing to do -/

theorem whenReleased_of_id {f : State → State} {s : State} (h : f s = s) : whenReleased f s = s := by
  unfold whenReleased
  split
  · rfl
  · exact h

/-! ### The fetch arbiter (06:R97) -/

theorem find_finRange {n : Nat} {p : Fin n → Bool} {e : Fin n} (he : p e = true) (hbefore : ∀ i < e, p i = false) :
    (List.finRange n).find? p = some e := by
  rw [List.find?_eq_some_iff_getElem]
  refine ⟨he, e.val, by simp, by simp, fun j hj => ?_⟩
  have hlt : (⟨j, hj.trans e.isLt⟩ : Fin n) < e := hj
  simp [hbefore _ hlt]

theorem find_roundRobin {p : Ring → Bool} {m : Ring} {j : Nat} (h1 : 1 ≤ j) (h4 : j ≤ 4)
    (hj : p (ringAfter m j) = true) (hbefore : ∀ k, 1 ≤ k → k < j → p (ringAfter m k) = false) :
    (roundRobin m).find? p = some (ringAfter m j) := by
  have hcases : j = 1 ∨ j = 2 ∨ j = 3 ∨ j = 4 := by omega
  rcases hcases with rfl | rfl | rfl | rfl
  · simp [roundRobin, hj]
  · simp [roundRobin, hj, hbefore 1]
  · simp [roundRobin, hj, hbefore 1, hbefore 2]
  · simp [roundRobin, hj, hbefore 1, hbefore 2, hbefore 3]

theorem SchedEntry.requests_iff (x : SchedEntry) :
    x.requests = true ↔ x.state = .fetching ∧ x.phase = .requested := by simp [SchedEntry.requests]

theorem SubRing.wantsFetch_iff (r : SubRing) : r.wantsFetch = true ↔ r.state = .idle ∧ r.tail ≠ r.consumed := by
  simp [SubRing.wantsFetch]

theorem State.mayFetch_iff (s : State) : s.mayFetch = true ↔ s.cu.state = .running ∧ s.hp.read = none := by
  simp [State.mayFetch]

theorem State.templateCandidate_none {s : State}
    (h : ∀ e, ¬ ((s.entry e).state = .fetching ∧ (s.entry e).phase = .requested)) : s.templateCandidate = none := by
  simpa [State.templateCandidate, ← SchedEntry.requests_iff] using h

theorem State.ringCandidate_none {s : State}
    (h : ∀ n, ¬ ((s.ring n).state = .idle ∧ (s.ring n).tail ≠ (s.ring n).consumed)) : s.ringCandidate = none := by
  rw [State.ringCandidate, List.find?_eq_none]
  exact fun n _ => fun hw => h n ((SubRing.wantsFetch_iff _).mp hw)

/-- Settles O30: the arbiter's guard and its two candidates, each found or not. -/
theorem fetchArbiterIssuesReads : Obligations.FetchArbiterIssuesReads := by
  refine ⟨fun s j hr hrun hread hnone => ?_, fun s e hr hrun hread hstate hphase hbefore => ?_, fun s h => ?_,
    fun s hnone => ⟨?_, fun hring => ?_⟩, fun base offset h => ?_⟩
  · intro at_ wants h1 h4 hj hk n r
    have hcandidate : s.ringCandidate = some n :=
      find_roundRobin h1 h4 ((SubRing.wantsFetch_iff _).mpr hj) fun k hk1 hkj =>
        Bool.eq_false_iff.mpr fun hw => hk k hk1 hkj ((SubRing.wantsFetch_iff _).mp hw)
    refine congrArg _ ((whenReleased_eq hr).trans ?_)
    simp only [s.mayFetch_iff.mpr ⟨hrun, hread⟩, State.templateCandidate_none hnone, Option.isNone_none, Bool.and_self,
      if_true, hcandidate]
    rfl
  · have hcandidate : s.templateCandidate = some e :=
      find_finRange ((SchedEntry.requests_iff _).mpr ⟨hstate, hphase⟩) fun i hi =>
        Bool.eq_false_iff.mpr fun hq => hbefore i hi ((SchedEntry.requests_iff _).mp hq)
    refine ⟨congrArg _ ((whenReleased_eq hr).trans ?_), congrArg _ ((whenReleased_eq hr).trans ?_)⟩
    · simp only [s.mayFetch_iff.mpr ⟨hrun, hread⟩, if_true, hcandidate]
      rfl
    · simp [hcandidate]
  · have hmay : s.mayFetch = false := by
      rw [Bool.eq_false_iff, Ne, State.mayFetch_iff]
      rintro ⟨hrun, hread⟩
      exact h.elim (· hrun) (· hread)
    constructor <;> exact congrArg _ (whenReleased_of_id (by simp [hmay]))
  · refine congrArg _ (whenReleased_of_id ?_)
    simp only [State.templateCandidate_none hnone, ite_self]
  · refine congrArg _ (whenReleased_of_id ?_)
    simp only [State.ringCandidate_none hring, ite_self]
  · have hoffset : offset < 2 ^ 64 := by omega
    have hsum : base.toNat + offset < 2 ^ 64 := h
    rw [addressSum, if_pos hsum, BitVec.toNat_add, BitVec.toNat_ofNat, Nat.mod_eq_of_lt hoffset, Nat.mod_eq_of_lt hsum]

/-! ### Phases (08:R124, 08:R129) -/

/-- The phase of an index beside the wrap of the 16-bit index is that of the unwrapped one, since the ring sizes divide
half of 65,536. -/
theorem phaseOfIndex_add {e j : Nat} (he : e ≤ 12) (hj : j < 2 ^ e) (i : Index) :
    phaseOfIndex (2 ^ e) (i + BitVec.ofNat 16 j) = ((i.toNat + j) / 2 ^ e % 2 == 0) := by
  have hsize : (2 : Nat) ^ e ≤ 2 ^ 12 := Nat.pow_le_pow_right (by decide) he
  have hjmod : j % 2 ^ 16 = j := Nat.mod_eq_of_lt (by omega)
  have hsplit : (2 : Nat) ^ 16 = 2 ^ e * (2 * 2 ^ (15 - e)) := by
    rw [← Nat.pow_succ', ← Nat.pow_add]
    congr 1
    omega
  rw [phaseOfIndex, BitVec.toNat_add, BitVec.toNat_ofNat, hjmod, hsplit, Nat.mod_mul_right_div_self,
    Nat.mod_mul_right_mod]

/-- Settles O39: slot j lies in the pass of the tail or in the next one. -/
theorem slotPhaseIsPhaseOfIndex : Obligations.SlotPhaseIsPhaseOfIndex := by
  intro w e j _ he hsize hj hphase
  rw [hsize] at hj hphase ⊢
  have hpass : w.slotPhase j = ((w.tail.toNat + j) / 2 ^ e % 2 == 0) := by
    have hpos : 0 < 2 ^ e := Nat.two_pow_pos e
    have hdiv : (w.tail.toNat + j) / 2 ^ e = w.tail.toNat / 2 ^ e + (w.tail.toNat % 2 ^ e + j) / 2 ^ e := by
      conv_lhs => rw [← Nat.div_add_mod w.tail.toNat (2 ^ e), Nat.add_assoc, Nat.mul_add_div hpos]
    rw [CompletionWriter.slotPhase, hsize, hphase, phaseOfIndex, hdiv]
    have hmod := Nat.mod_lt w.tail.toNat hpos
    split
    next hin => rw [Nat.div_eq_of_lt hin, Nat.add_zero]
    next hout =>
      have hone : (w.tail.toNat % 2 ^ e + j) / 2 ^ e = 1 :=
        Nat.div_eq_of_lt_le (by omega) (by omega)
      rw [hone]
      rcases Nat.mod_two_eq_zero_or_one (w.tail.toNat / 2 ^ e) with h | h <;> simp [h, Nat.add_mod]
  exact ⟨by rw [phaseOfIndex_add he hj, hpass], fun _ => hpass⟩

/-! ### Requests and the grant (08:R125, 08:R126) -/

theorem State.request_of_posting {s : State} {b : Bank} {x : Context} (hseq : (s.bank b).seq = .posting)
    (hx : (s.bank b).context = some x) : s.request (.bs b) = x.record := by
  simp [State.request, hseq, hx]

theorem State.request_none {s : State} {b : Bank} (h : (s.bank b).seq ≠ .posting ∨ (s.bank b).context = none) :
    s.request (.bs b) = none := by
  rcases h with h | h <;> simp [State.request, h]

theorem mem_cyclicFrom (p q : Requester) : q ∈ cyclicFrom p := by
  rcases p with b | _
  · rcases q with c | _
    · fin_cases b <;> fin_cases c <;> simp [cyclicFrom]
    · fin_cases b <;> simp [cyclicFrom]
  · rcases q with c | _
    · fin_cases c <;> simp [cyclicFrom]
    · simp [cyclicFrom]

/-- The cyclic order is the requesters one after another. -/
theorem cyclicFrom_eq (p : Requester) :
    cyclicFrom p = [p, requesterAfter p, requesterAfter (requesterAfter p),
      requesterAfter (requesterAfter (requesterAfter p)),
      requesterAfter (requesterAfter (requesterAfter (requesterAfter p)))] := by
  rcases p with b | _
  · fin_cases b <;> rfl
  · rfl

theorem State.nextRequest_eq_none (s : State) : s.nextRequest = none ↔ ∀ q, s.request q = none := by
  rw [State.nextRequest, List.findSome?_eq_none_iff]
  simp only [Option.map_eq_none_iff]
  exact ⟨fun h q => h q (mem_cyclicFrom _ q), fun h q _ => h q⟩

theorem State.nextRequest_first {s : State} {g : Granted} (h : s.nextRequest = some g) :
    ∃ before after, cyclicFrom s.cw.pointer = before ++ g.requester :: after ∧ ∀ q ∈ before, s.request q = none := by
  obtain ⟨before, q, after, hsplit, hq, hbefore⟩ := findSome_first _ _ _ h
  obtain ⟨r, -, rfl⟩ := Option.map_eq_some_iff.mp hq
  exact ⟨before, after, hsplit, fun p hp => Option.map_eq_none_iff.mp (hbefore p hp)⟩

theorem State.grantNext_of_none {s : State} (h : s.nextRequest = none) : s.grantNext = s := by
  unfold State.grantNext
  split
  · rw [h]
  · rfl

theorem State.grantNext_of_not_free {s : State}
    (h : s.cw.grant ≠ .none ∨ (s.cu.state ≠ .running ∧ s.cu.state ≠ .stopping)) : s.grantNext = s := by
  rcases h with h | ⟨h, h'⟩ <;> simp [State.grantNext, State.working, *]

section Grants

variable {s : State} {g : Granted} (hwork : s.cu.state = .running ∨ s.cu.state = .stopping)
  (hnone : s.cw.grant = .none) (hnext : s.nextRequest = some g)

include hwork hnone hnext

theorem State.grantNext_of_room (hfits : g.record.slotCount ≤ s.cw.free) :
    s.grantNext = { s with cw := { s.cw with granted := some g } }.issueRecord g.record := by
  have hguard : (s.working && s.cw.grant == .none) = true := by simp [State.working_of_state hwork, hnone]
  rw [State.grantNext, if_pos hguard, hnext]
  simp only [State.spaceCheck_fits { s with cw := { s.cw with granted := some g } } g.record hfits]

theorem State.grantNext_of_no_room (hfull : s.cw.free < g.record.slotCount) :
    s.grantNext = { s with cw := { s.cw with granted := some g, grant := .stalled } }.raise .cqStall := by
  have hguard : (s.working && s.cw.grant == .none) = true := by simp [State.working_of_state hwork, hnone]
  rw [State.grantNext, if_pos hguard, hnext]
  simp only [State.spaceCheck_stalls { s with cw := { s.cw with granted := some g } } g.record (Nat.not_le.mpr hfull)]

end Grants

theorem exec_cqGrant {s : State} (hr : s.resetAsserted = false) : exec .cqGrant s = .next s.grantNext :=
  congrArg Host.Outcome.next (whenReleased_eq (f := State.grantNext) hr)

/-- Settles O40: the requests, the first requester from the pointer on, and the space check. -/
theorem completionGrant : Obligations.CompletionGrant := by
  refine ⟨fun s => ⟨fun b x => State.request_of_posting, fun b => State.request_none, fun h => ?_, fun r rs h => ?_,
    s.nextRequest_eq_none, fun h => ?_⟩, ⟨fun s h => ?_, fun s g h => ⟨State.request_of_nextRequest h, ?_⟩⟩,
    fun s g hr hwork hnone hnext => ⟨fun hfits hone => ?_, fun hfits hmore => ?_, fun hfull => ?_⟩⟩
  · simp [State.request, h]
  · simp [State.request, h]
  · exact congrArg _ (whenReleased_of_id (State.grantNext_of_none h))
  · exact congrArg _ (whenReleased_of_id (State.grantNext_of_not_free h))
  · rw [← cyclicFrom_eq]
    exact State.nextRequest_first h
  · rw [exec_cqGrant hr, State.grantNext_of_room hwork hnone hnext hfits, State.issueRecord, if_pos (by omega)]
    rfl
  · rw [exec_cqGrant hr, State.grantNext_of_room hwork hnone hnext hfits, State.issueRecord, if_neg (by omega)]
    rfl
  · rw [exec_cqGrant hr, State.grantNext_of_no_room hwork hnone hnext hfull]
    rfl

/-! ### Answers to following slots (08:R129) -/

/-- The write taken is the k-th of its kind, and the others keep their order. -/
theorem takeWrite_eq_some (kind : WriteKind) (l : List BusWrite) : ∀ {k : Nat} {w : BusWrite} {ws : List BusWrite},
    takeWrite kind k l = some (w, ws) → w.kind = kind ∧ ∃ before after, l = before ++ w :: after ∧
      ws = before ++ after ∧ (before.filter fun u => u.kind == kind).length = k := by
  induction l with
  | nil => intro k w ws h; cases k <;> cases h
  | cons u us ih =>
    intro k w ws h
    have hlater {k' : Nat} (h' : (takeWrite kind k' us).map (fun p => (p.1, u :: p.2)) = some (w, ws)) :
        w.kind = kind ∧ ∃ before after, u :: us = u :: before ++ w :: after ∧ ws = u :: before ++ after ∧
          (before.filter fun u => u.kind == kind).length = k' := by
      obtain ⟨⟨w', ws'⟩, htake, heq⟩ := Option.map_eq_some_iff.mp h'
      obtain ⟨rfl, rfl⟩ := Prod.mk.inj heq
      obtain ⟨hkind, before, after, rfl, rfl, hcount⟩ := ih htake
      exact ⟨hkind, before, after, rfl, rfl, hcount⟩
    rw [takeWrite.eq_def] at h
    dsimp only at h
    split at h
    next hu =>
      cases k with
      | zero =>
        obtain ⟨rfl, rfl⟩ := Prod.mk.inj (Option.some.inj h)
        exact ⟨hu, [], us, rfl, rfl, rfl⟩
      | succ k =>
        obtain ⟨hkind, before, after, hl, hws, hcount⟩ := hlater h
        exact ⟨hkind, u :: before, after, hl, hws, by simp [hu, hcount]⟩
    next hu =>
      obtain ⟨hkind, before, after, hl, hws, hcount⟩ := hlater h
      exact ⟨hkind, u :: before, after, hl, hws, by simp [hu, hcount]⟩

theorem takeWrite_eq_none (kind : WriteKind) (l : List BusWrite) : ∀ {k : Nat}, takeWrite kind k l = none →
    (l.filter fun u => u.kind == kind).length ≤ k := by
  induction l with
  | nil => exact fun _ => Nat.zero_le _
  | cons u us ih =>
    intro k h
    rw [takeWrite.eq_def] at h
    dsimp only at h
    split at h
    next hu =>
      cases k with
      | zero => cases h
      | succ k =>
        have := ih (Option.map_eq_none_iff.mp h)
        simp [hu, this]
    next hu =>
      have := ih (Option.map_eq_none_iff.mp h)
      simpa [hu] using this

theorem exec_followingAnswer_okay {s : State} {k : Nat} {w : BusWrite} {ws : List BusWrite}
    (hr : s.resetAsserted = false) (htake : takeWrite .following k s.hp.writes = some (w, ws)) :
    exec (.followingSlotWriteAnswer k .okay) s = .next (s.setWrites ws).afterFollowing := by
  refine congrArg _ ((whenReleased_eq hr).trans ?_)
  simp only [htake]

/-- Settles O41: whether a following slot is still in flight decides, and the answered one is the k-th. -/
theorem followingAnswersThenHeader : Obligations.FollowingAnswersThenHeader := by
  refine ⟨fun s k w ws g hr hwork hwriting hg htake => ⟨fun hsome => ?_, fun hnone => ?_⟩,
    fun kind k l => ⟨fun w ws => takeWrite_eq_some kind l, takeWrite_eq_none kind l⟩⟩
  · have hflight : (s.setWrites ws).hp.followingInFlight = true := by
      simpa [HostPort.followingInFlight, State.setWrites] using hsome
    rw [exec_followingAnswer_okay hr htake, State.afterFollowing]
    simp only [hflight, Bool.not_true, Bool.and_false, Bool.false_eq_true, if_false]
    rfl
  · have hflight : (s.setWrites ws).hp.followingInFlight = false := by
      simpa [HostPort.followingInFlight, State.setWrites] using hnone
    have hguard : ((s.setWrites ws).working && (s.setWrites ws).cw.grant == .writing &&
        !(s.setWrites ws).hp.followingInFlight) = true := by
      rw [hflight, State.working_of_state (s := s.setWrites ws) hwork]
      simp [hwriting]
    have hg' : (s.setWrites ws).cw.granted = some g := hg
    rw [exec_followingAnswer_okay hr htake, State.afterFollowing, if_pos hguard, hg']
    rfl

/-! ### The drain (10:R158) -/

theorem HostPort.inFlight_eq_zero (h : HostPort) :
    h.inFlight = 0 ↔ h.read = none ∧ h.setupRead = none ∧ h.writes = [] := by
  cases hread : h.read <;> cases hsetup : h.setupRead <;> simp [HostPort.inFlight, hread, hsetup]

theorem RingState.atRest_iff (q : RingState) : q.atRest = true ↔ q = .idle ∨ q = .disabled ∨ q = .error := by
  cases q <;> simp [RingState.atRest]

/-- Settles O46: the four conditions are those of the drain. -/
theorem drainEntersStopped : Obligations.DrainEntersStopped := by
  intro s hr idle
  have hexec : exec .drainComplete s = .next s.drainIfComplete :=
    congrArg Host.Outcome.next (whenReleased_eq (f := State.drainIfComplete) hr)
  have hidle : s.drained = true ↔ idle := by
    simp only [State.drained_iff, RingState.atRest_iff, State.nextRequest_eq_none, idle, HostPort.inFlight_eq_zero]
    tauto
  refine ⟨fun hstop h => ?_, fun hnot => ?_⟩
  · rw [hexec, State.drainIfComplete, if_pos ⟨hstop, hidle.mpr h⟩]
    rfl
  · rw [hexec, State.drainIfComplete, if_neg]
    rw [hidle]
    tauto

/-! ### The end of LOADING (10:R153 to 10:R155) -/

theorem SchedEntry.restart_eq (x : SchedEntry) (now : Time) :
    x.restart now = if x.state = .armed ∨ x.state = .outstanding then
        { x with nextExpiry := now + BitVec.ofNat 32 (x.periodMs.toNat * 1000) }
      else x := by
  unfold SchedEntry.restart
  cases hs : x.state <;> simp [msToMicros]

theorem SubRing.configure_eq (r : SubRing) (d : Bytes) (n : Ring) :
    r.configure d n = if byteAt d (12 + n.val) = 0 then
        { r with state := .disabled, base := 0, size := 0, tail := 0, consumed := 0, outstanding := 0 }
      else { r with
        state := .idle, base := dwordAt d (16 + 8 * n.val), size := 2 ^ (byteAt d (12 + n.val)).toNat,
        tail := 0, consumed := 0, outstanding := 0 } := by
  unfold SubRing.configure
  exact if_congr (setupSqExponent_eq_zero d n) rfl rfl

/-- The state that ends LOADING, before its status-area write (10:R155). -/
def State.loaded (s : State) (d : Bytes) : State :=
  { s with
    cu := { s.cu with state := .running }
    rings := Vector.ofFn (fun n => (s.ring n).configure d n)
    fu := { s.fu with lastFetched := 3, statusAddr := setupStatusAddr d }
    cw := s.cw.configure d
    banks := mapAll (fun k => { k with lastAdmitted := 3 }) s.banks
    sched := mapAll (fun x => x.restart s.now) s.sched }

theorem State.endLoading_eq (s : State) (d : Bytes) : s.endLoading d = (s.loaded d).writeStatus := rfl

theorem State.loaded_ring (s : State) (d : Bytes) (n : Ring) :
    (s.loaded d).ring n = if byteAt d (12 + n.val) = 0 then
        { s.ring n with state := .disabled, base := 0, size := 0, tail := 0, consumed := 0, outstanding := 0 }
      else { s.ring n with
        state := .idle, base := dwordAt d (16 + 8 * n.val), size := 2 ^ (byteAt d (12 + n.val)).toNat,
        tail := 0, consumed := 0, outstanding := 0 } := by
  rw [← SubRing.configure_eq]
  simp [State.loaded, State.ring]

theorem State.loaded_bank (s : State) (d : Bytes) (b : Bank) :
    (s.loaded d).bank b = { s.bank b with lastAdmitted := 3 } := by
  simp [State.loaded, State.bank]

theorem State.loaded_entry (s : State) (d : Bytes) (e : Entry) :
    (s.loaded d).entry e = if (s.entry e).state = .armed ∨ (s.entry e).state = .outstanding then
        { s.entry e with nextExpiry := s.now + BitVec.ofNat 32 ((s.entry e).periodMs.toNat * 1000) }
      else s.entry e := by
  rw [← SchedEntry.restart_eq]
  simp [State.loaded, State.entry]

section Answers

variable {s : State}

theorem State.takeSetupAnswer_of_other (h : s.cu.state ≠ .loading) (a : ReadAnswer) : s.takeSetupAnswer a = s :=
  if_neg h

theorem State.takeSetupAnswer_of_abandoned (h : s.cu.state = .loading) (habandoned : s.cu.loadAbandoned = true)
    (a : ReadAnswer) :
    s.takeSetupAnswer a = { s with cu := { s.cu with state := s.cu.returnState.control, enable := false } } :=
  (if_pos h).trans (if_pos habandoned)

theorem State.takeSetupAnswer_of_error (h : s.cu.state = .loading) (hload : s.cu.loadAbandoned = false) :
    s.takeSetupAnswer .busError = s.enterFaulted .setupReadError (s.cu.setupAddr.setWidth 16) := by
  simp [State.takeSetupAnswer, h, hload, State.reportFault_of_loading h]

theorem State.takeSetupAnswer_of_valid {d : Bytes} (h : s.cu.state = .loading) (hload : s.cu.loadAbandoned = false)
    (hd : setupFailure d = none) : s.takeSetupAnswer (.okay d) = (s.loaded d).writeStatus := by
  simp [State.takeSetupAnswer, h, hload, hd, State.endLoading_eq]

end Answers

/-- Settles O47: the answer by the controller state, the abandoned mark and the checks of the block. -/
theorem setupAnswerEndsLoading : Obligations.SetupAnswerEndsLoading := by
  refine ⟨fun s p a hr hstate hread => ?_, fun s p hr hstate hread => ?_⟩
  · rw [exec_setupReadAnswer hr hread,
      State.takeSetupAnswer_of_other (s := s.clearSetupRead) (by simp [State.clearSetupRead, hstate])]
    rfl
  intro t
  have htake (a : ReadAnswer) : exec (.setupReadAnswer a) s = .next (t.takeSetupAnswer a) :=
    exec_setupReadAnswer hr hread a
  have hloading : t.cu.state = .loading := hstate
  refine ⟨fun habandoned a => ?_, fun hload => ⟨?_, fun d off hoff => ?_, fun d hd => ?_⟩⟩
  · rw [htake, State.takeSetupAnswer_of_abandoned hloading habandoned]
    rfl
  · rw [htake, State.takeSetupAnswer_of_error hloading hload]
  · rw [htake, State.takeSetupAnswer_of_invalid hloading hload hoff]
  · refine ⟨t.loaded d, ?_, rfl, t.loaded_ring d, t.loaded_bank d, t.loaded_entry d⟩
    rw [htake, State.takeSetupAnswer_of_valid hloading hload hd]

end Sys2Proof.Machine
end

section
/-! PROOFS. The bytes of a record's slots (07 sections 7.2 to 7.4). -/
namespace Sys2Proof.Machine

open Sys2Proof

/-! ### Little-endian bytes -/

/-- The two bytes of a half word make it up again. -/
theorem join_half (x : BitVec 16) : (x >>> 8).setWidth 8 ++ x.setWidth 8 = x := by
  refine BitVec.eq_of_toNat_eq ?_
  have := x.isLt
  simp only [toNat_append_eq_add, BitVec.toNat_setWidth, BitVec.toNat_ushiftRight, Nat.shiftRight_eq_div_pow]
  omega

/-- The four bytes of a word make it up again. -/
theorem join_word (x : BitVec 32) :
    ((x >>> 8 >>> 8 >>> 8).setWidth 8 ++ (x >>> 8 >>> 8).setWidth 8) ++ ((x >>> 8).setWidth 8 ++ x.setWidth 8) =
      x := by
  refine BitVec.eq_of_toNat_eq ?_
  have := x.isLt
  simp only [toNat_append_eq_add, BitVec.toNat_setWidth, BitVec.toNat_ushiftRight, Nat.shiftRight_eq_div_pow]
  omega

theorem detailBytes_toNat (a b c d : Byte) :
    (detailBytes a b c d).toNat = a.toNat + 256 * b.toNat + 65536 * c.toNat + 16777216 * d.toNat := by
  simp only [detailBytes, toNat_append_eq_add]
  omega

/-- The four detail bytes lie in the detail word lowest first. -/
theorem detailBytes_bytes (a b c d : Byte) :
    (detailBytes a b c d).setWidth 8 = a ∧ (detailBytes a b c d >>> 8).setWidth 8 = b ∧
      (detailBytes a b c d >>> 8 >>> 8).setWidth 8 = c ∧ (detailBytes a b c d >>> 8 >>> 8 >>> 8).setWidth 8 = d := by
  have ha := a.isLt
  have hb := b.isLt
  have hc := c.isLt
  have hd := d.isLt
  refine ⟨?_, ?_, ?_, ?_⟩ <;> refine BitVec.eq_of_toNat_eq ?_ <;>
    simp only [BitVec.toNat_setWidth, BitVec.toNat_ushiftRight, Nat.shiftRight_eq_div_pow, detailBytes_toNat] <;> omega

/-! ### Single bytes -/

/-- Each flag has its bit (07 section 7.2.1). -/
theorem flags_bits : ∀ a b c d e f : Bool,
    let x := RecordFlags.byte
      { notify := a, refConverted := b, refRevoked := c, limitHit := d, supplyLowSeen := e, saturated := f }
    x.getLsbD 0 = a ∧ x.getLsbD 1 = b ∧ x.getLsbD 2 = c ∧ x.getLsbD 3 = d ∧ x.getLsbD 4 = e ∧ x.getLsbD 5 = f ∧
      x.toNat < 64 := by decide

theorem Source.byte_ring (n : Ring) : (Source.ring n).byte.toNat = n.val := by
  have := n.isLt
  simp only [Source.byte, BitVec.toNat_ofNat]
  omega

theorem Source.byte_schedule (e : Entry) : (Source.schedule e).byte.toNat = 8 + e.val := by
  have := e.isLt
  simp only [Source.byte, BitVec.toNat_ofNat]
  omega

theorem bankRefByte_toNat (b : Bank) (r : Ref) :
    (bankRefByte b r).toNat = b.val + (if r = .a then 0 else 16) := by
  cases r <;> fin_cases b <;> rfl

/-! ### The header (07 section 7.2.1) -/

/-- The header byte by byte. -/
theorem header_eq (r : Record) (phase : Bool) :
    r.slotBytes 0 phase =
      [BitVec.ofNat 8 r.slotCount, r.kind, r.status.code, r.flags.byte,
        r.tag.setWidth 8, (r.tag >>> 8).setWidth 8, r.source.byte, bankRefByte r.bank r.ref,
        (r.gate.setWidth 32).setWidth 8, (r.gate.setWidth 32 >>> 8).setWidth 8,
        (r.gate.setWidth 32 >>> 8 >>> 8).setWidth 8, (r.gate.setWidth 32 >>> 8 >>> 8 >>> 8).setWidth 8,
        r.nRef.setWidth 8, (r.nRef >>> 8).setWidth 8, r.generation.setWidth 8, (r.generation >>> 8).setWidth 8,
        r.startTime.setWidth 8, (r.startTime >>> 8).setWidth 8, (r.startTime >>> 8 >>> 8).setWidth 8,
        (r.startTime >>> 8 >>> 8 >>> 8).setWidth 8,
        r.endTime.setWidth 8, (r.endTime >>> 8).setWidth 8, (r.endTime >>> 8 >>> 8).setWidth 8,
        (r.endTime >>> 8 >>> 8 >>> 8).setWidth 8,
        r.detail.setWidth 8, (r.detail >>> 8).setWidth 8, (r.detail >>> 8 >>> 8).setWidth 8,
        (r.detail >>> 8 >>> 8 >>> 8).setWidth 8, 0, 0, 0, phaseByte phase] := rfl

theorem header_bytes (r : Record) (phase : Bool) :
    let h := r.slotBytes 0 phase
    byteAt h 0 = BitVec.ofNat 8 r.slotCount ∧ byteAt h 1 = r.kind ∧ byteAt h 2 = r.status.code ∧
    byteAt h 3 = r.flags.byte ∧ byteAt h 6 = r.source.byte ∧ byteAt h 7 = bankRefByte r.bank r.ref ∧
    byteAt h 24 = r.detail.setWidth 8 ∧ byteAt h 25 = (r.detail >>> 8).setWidth 8 ∧
    byteAt h 26 = (r.detail >>> 8 >>> 8).setWidth 8 ∧ byteAt h 27 = (r.detail >>> 8 >>> 8 >>> 8).setWidth 8 ∧
    byteAt h 28 = 0 ∧ byteAt h 29 = 0 ∧ byteAt h 30 = 0 := by
  rw [header_eq]
  exact ⟨rfl, rfl, rfl, rfl, rfl, rfl, rfl, rfl, rfl, rfl, rfl, rfl, rfl⟩

theorem header_words (r : Record) (phase : Bool) :
    let h := r.slotBytes 0 phase
    halfAt h 4 = r.tag ∧ wordAt h 8 = r.gate.setWidth 32 ∧ halfAt h 12 = r.nRef ∧ halfAt h 14 = r.generation ∧
    wordAt h 16 = r.startTime ∧ wordAt h 20 = r.endTime := by
  rw [header_eq]
  exact ⟨join_half _, join_word _, join_half _, join_half _, join_word _, join_word _⟩

/-! ### The following slots (07 sections 7.2.2 and 7.2.3) -/

theorem ChannelEntry.bytes_length (c : ChannelEntry) : c.bytes.length = 15 := rfl

theorem SnapEntry.bytes_length (c : SnapEntry) : c.bytes.length = 15 := rfl

theorem Record.entryBytes_length (r : Record) {x : Bytes} (h : x ∈ r.entryBytes) : x.length = 15 := by
  rcases List.mem_append.mp h with h | h
  · obtain ⟨c, -, rfl⟩ := List.mem_map.mp h
    exact c.bytes_length
  · obtain ⟨c, -, rfl⟩ := List.mem_map.mp h
    exact c.bytes_length

/-- The half of a slot for entry `k`: its bytes, or zeros behind the last entry. -/
def Record.half (r : Record) (k : Nat) : Bytes := r.entryBytes[k]?.getD (List.replicate 15 0)

@[simp] theorem Record.half_length (r : Record) (k : Nat) : (r.half k).length = 15 := by
  unfold Record.half
  cases h : r.entryBytes[k]? with
  | none => rfl
  | some x => exact r.entryBytes_length (List.mem_of_getElem? h)

theorem Record.half_of_entry {r : Record} {k : Nat} {x : Bytes} (h : r.entryBytes[k]? = some x) : r.half k = x := by
  rw [Record.half, h, Option.getD_some]

/-- A slot of two entries. -/
theorem Record.slotBytes_following (r : Record) (i : Nat) (phase : Bool) :
    r.slotBytes (1 + i) phase = r.half (2 * i) ++ (r.half (2 * i + 1) ++
        [(if r.entryBytes[2 * i]?.isSome then 1 else 0) + (if r.entryBytes[2 * i + 1]?.isSome then 1 else 0),
          phaseByte phase]) := by
  rw [Nat.add_comm 1 i, Record.slotBytes]
  simp [pairBody, Record.half]

theorem Record.slotBytes_end (r : Record) (j : Nat) (phase : Bool) :
    (r.slotBytes j phase).length = 32 ∧ (r.slotBytes j phase).getLast? = some (phaseByte phase) := by
  cases j with
  | zero => exact ⟨rfl, rfl⟩
  | succ j =>
    rw [Nat.add_comm, Record.slotBytes_following]
    exact ⟨by simp, by simp⟩

section Entries

variable {r : Record} {i : Nat} {x : Bytes} (phase : Bool) (hx : r.entryBytes[i]? = some x)

include hx

/-- Entry `i` lies in the half of its slot that its parity gives (07:R121). -/
theorem Record.slotBytes_entry :
    ((r.slotBytes (1 + i / 2) phase).drop (if i % 2 = 0 then 0 else 15)).take 15 = x := by
  rw [Record.slotBytes_following, ← Record.half_of_entry hx]
  split
  next heven =>
    rw [show 2 * (i / 2) = i by omega, List.drop_zero]
    exact List.take_left' (r.half_length i)
  next hodd =>
    rw [show 2 * (i / 2) + 1 = i by omega, List.drop_left' (r.half_length _)]
    exact List.take_left' (r.half_length i)

/-- The byte behind the two halves counts the entries. -/
theorem Record.slotBytes_used : byteAt (r.slotBytes (1 + i / 2) phase) 30 =
    1 + (if r.entryBytes[2 * (i / 2) + 1]?.isSome then 1 else 0) := by
  have hfirst : r.entryBytes[2 * (i / 2)]?.isSome = true := by
    have hlt := (List.getElem?_eq_some_iff.mp hx).1
    simp only [Option.isSome_iff_exists, List.getElem?_eq_some_iff]
    exact ⟨_, by omega, rfl⟩
  rw [Record.slotBytes_following, byteAt, hfirst, if_pos rfl, List.getD_append_right _ _ _ _ (by simp),
    List.getD_append_right _ _ _ _ (by simp), Record.half_length, Record.half_length]
  rfl

theorem Record.slotBytes_used_odd (h : i % 2 = 1) : byteAt (r.slotBytes (1 + i / 2) phase) 30 = 2 := by
  rw [Record.slotBytes_used phase hx, show 2 * (i / 2) + 1 = i by omega, hx]
  rfl

/-- The last slot of an odd list. -/
theorem Record.slotBytes_last (h : i % 2 = 0) (hlast : i + 1 = r.entryBytes.length) :
    byteAt (r.slotBytes (1 + i / 2) phase) 30 = 1 ∧
      ((r.slotBytes (1 + i / 2) phase).drop 15).take 15 = List.replicate 15 0 := by
  have hnone : r.entryBytes[2 * (i / 2) + 1]? = none := by
    rw [List.getElem?_eq_none_iff]
    omega
  refine ⟨by rw [Record.slotBytes_used phase hx, hnone]; rfl, ?_⟩
  have hzeros : r.half (2 * (i / 2) + 1) = List.replicate 15 0 := by rw [Record.half, hnone, Option.getD_none]
  rw [Record.slotBytes_following, List.drop_left' (r.half_length _), hzeros]
  exact List.take_left' List.length_replicate

end Entries

theorem ChannelEntry.layout (c : ChannelEntry) :
    byteAt c.bytes 0 = BitVec.ofNat 8 c.channel.val ∧ byteAt c.bytes 1 = c.status.code ∧
      byteAt c.bytes 2 = BitVec.ofNat 8 c.good ∧ byteAt c.bytes 3 = BitVec.ofNat 8 c.rejected ∧
      byteAt c.bytes 4 = c.limit.code ∧ wordAt c.bytes 5 = BitVec.ofNat 32 c.sum ∧
      wordAt c.bytes 9 = BitVec.ofNat 32 c.ratio ∧ byteAt c.bytes 13 = 0 ∧ byteAt c.bytes 14 = 0 :=
  ⟨rfl, rfl, rfl, rfl, rfl, join_word _, join_word _, rfl, rfl⟩

theorem SnapEntry.layout (c : SnapEntry) :
    byteAt c.bytes 0 = c.state.code ∧ byteAt c.bytes 1 = (if c.leased then 1 else 0) ∧
      halfAt c.bytes 2 = c.generation ∧ wordAt c.bytes 4 = c.gate.setWidth 32 ∧ halfAt c.bytes 8 = c.nRef ∧
      halfAt c.bytes 10 = BitVec.ofNat 16 c.age ∧
      (byteAt c.bytes 12).toNat = c.bank.val + (if c.ref = .a then 0 else 16) ∧
      byteAt c.bytes 13 = 0 ∧ byteAt c.bytes 14 = 0 :=
  ⟨rfl, rfl, join_half _, join_word _, join_half _, join_half _, bankRefByte_toNat _ _, rfl, rfl⟩

/-- Settles O38: the header byte by byte, the following slots by the parity of the list position, and the codes. -/
theorem slotLayouts : Obligations.SlotLayouts := by
  refine ⟨Record.slotBytes_end, fun r phase => ?_, fun r i c phase hsnap hc => ?_, fun r i c phase hchan hc => ?_, rfl,
    rfl, rfl, rfl⟩
  · obtain ⟨h0, h1, h2, h3, h6, h7, h24, h25, h26, h27, h28, h29, h30⟩ := header_bytes r phase
    obtain ⟨h4, h8, h12, h14, h16, h20⟩ := header_words r phase
    obtain ⟨b0, b1, b2, b3, b4, b5, hlt⟩ := flags_bits r.flags.notify r.flags.refConverted r.flags.refRevoked
      r.flags.limitHit r.flags.supplyLowSeen r.flags.saturated
    dsimp only
    rw [h3, h6, h7, h24, h25, h26, h27]
    exact ⟨h0, h1, h2, b0, b1, b2, b3, b4, b5, hlt, h4, fun n hn => hn ▸ Source.byte_ring n,
      fun e he => he ▸ Source.byte_schedule e, bankRefByte_toNat _ _, h8, h12, h14, h16, h20,
      fun a b c d hd => hd ▸ detailBytes_bytes a b c d, h28, h29, h30⟩
  · have hentries : r.entryBytes = r.channels.map ChannelEntry.bytes := by simp [Record.entryBytes, hsnap]
    have hx : r.entryBytes[i]? = some c.bytes := by simp [hentries, hc]
    refine ⟨Record.slotBytes_entry phase hx, fun h hlast => ?_, Record.slotBytes_used_odd phase hx, c.layout⟩
    exact Record.slotBytes_last phase hx h (by simp [hentries, hlast])
  · have hentries : r.entryBytes = r.snapshot.map SnapEntry.bytes := by simp [Record.entryBytes, hchan]
    have hx : r.entryBytes[i]? = some c.bytes := by simp [hentries, hc]
    exact ⟨Record.slotBytes_entry phase hx, Record.slotBytes_used_odd phase hx, c.layout⟩

end Sys2Proof.Machine
end

section
/-! PROOFS. FAULTED is left only by a reset (10:R161), and a generation changes only at a publication (02 section 2.4).
-/
namespace Sys2Proof.Machine

open Sys2Proof

/-! ### The first fault stays latched -/

/-- FAULTED with the fault of `u`. -/
def State.Latched (u s : State) : Prop :=
  s.cu.state = .faulted ∧ s.cu.faultCode = u.cu.faultCode ∧ s.cu.faultAddr = u.cu.faultAddr

theorem State.Latched.of_eq {u s t : State} (h : u.Latched s) (hcu : t.cu = s.cu) : u.Latched t := by
  rw [State.Latched, hcu]
  exact h

theorem State.reportFault_latched {u s : State} (h : u.Latched s) (code : FaultCode) (addr : BitVec 16) :
    u.Latched (s.reportFault code addr) := by
  obtain ⟨hstate, hcode, haddr⟩ := h
  simp only [State.reportFault, hstate]
  exact ⟨rfl, hcode, haddr⟩

theorem State.takeSetupAnswer_latched {u s : State} (h : u.Latched s) (a : ReadAnswer) :
    u.Latched (s.takeSetupAnswer a) := by
  rw [State.takeSetupAnswer_of_other (by simp [h.1])]
  exact h

theorem State.writeEnable_latched {u s : State} (h : u.Latched s) (on : Bool) : u.Latched (s.writeEnable on) := by
  simp only [State.writeEnable, h.1]
  cases on <;> exact h

theorem exec_latched {c : Instr} {s t : State} (hwf : wellFormed c = true) (hsoft : ∀ on, c ≠ .softReset on)
    (hhard : c ≠ .resetNAsserted) (h : s.Latched s) (hstep : exec c s = .next t) : s.Latched t := by
  cases c with
  | softReset on => exact absurd rfl (hsoft on)
  | resetNAsserted => exact absurd rfl hhard
  | settleDelayExpiry | firstEdge | startTimeout | refTimeout | senseWindowClose | submit | bankAbort | eventCause
  | eventMask | conversionClockTick | cqGrant | cqHead =>
    exact released_keeps hstep h (h.of_eq (by simp))
  | refDone | overflow | countedEdge | admission | measure | setBank | invalidateRef | reportRefs | setSupply
  | setSchedule | clearSchedule | fence | ringReadAnswer | templateReadAnswer | scheduleExpiry =>
    refine released_keeps hstep h (h.of_eq ?_)
    split <;> simp
  | ringReadIssue | templateReadIssue =>
    refine released_keeps hstep h (h.of_eq ?_)
    repeat' split
    all_goals simp
  | supplySettleEnd =>
    refine released_keeps hstep h (h.of_eq ?_)
    split
    · simp
    · exact foldl_keeps State.cu State.deliverSome (by simp) _ _
  | lowTransition | comparatorReadsHigh | comparatorReadsLow =>
    cases hstep
    exact h.of_eq (by simp)
  | statusWriteAnswer a =>
    refine released_keeps hstep h ?_
    split
    · exact h
    next ws _ =>
      have hset : s.Latched (s.setWrites ws) := h
      cases a with
      | okay => exact hset
      | busError => exact State.reportFault_latched hset _ _
  | followingSlotWriteAnswer k a =>
    refine released_keeps hstep h ?_
    split
    · exact h
    next ws _ =>
      have hset : s.Latched (s.setWrites ws) := h
      cases a with
      | okay => exact hset.of_eq (by simp)
      | busError => exact State.reportFault_latched hset _ _
  | headerWriteAnswer a =>
    refine released_keeps hstep h ?_
    split
    · exact h
    next ws _ =>
      have hset : s.Latched (s.setWrites ws) := h
      cases a with
      | okay => exact hset.of_eq (by simp)
      | busError => exact State.reportFault_latched hset _ _
  | enable on => exact released_keeps hstep h (State.writeEnable_latched h on)
  | setupAddrLo v | setupAddrHi v =>
    refine released_keeps hstep h ?_
    simp only [State.writeSetupAddrLo, State.writeSetupAddrHi, State.writeSetupAddr, h.1]
    exact h
  | setupReadAnswer a =>
    refine released_keeps hstep h ?_
    split
    · exact h
    · exact State.takeSetupAnswer_latched (s := s.clearSetupRead) h a
  | drainComplete =>
    refine released_keeps hstep h ?_
    rw [State.drainIfComplete, if_neg (by simp [h.1])]
    exact h
  | softResetComplete =>
    refine released_keeps hstep h ?_
    rw [State.resetIfQuiet, if_neg (by simp [h.1])]
    exact h
  | resetNReleased =>
    cases hstep
    exact h
  | registerWriteIgnored o l v =>
    refine released_keeps hstep h ?_
    rw [State.writeAccess_of_wellFormed hwf]
    exact h

/-- Settles O53: in FAULTED no command but the two resets reaches the state or the latched fault. -/
theorem faultedLeftOnlyByReset : Obligations.FaultedLeftOnlyByReset :=
  fun _ _ _ hwf hstate hstep hsoft hhard => exec_latched hwf hsoft hhard ⟨hstate, rfl, rfl⟩ hstep

/-! ### Claims that keep a generation (02 section 2.4) -/

section Entries

variable (e : RefEntry)

@[simp] theorem RefEntry.invalidate_generation : e.invalidate.generation = e.generation := by
  unfold RefEntry.invalidate
  cases e.state <;> simp only
  split <;> rfl

@[simp] theorem RefEntry.supplyLow_generation : e.supplyLow.generation = e.generation := by
  unfold RefEntry.supplyLow
  cases e.state <;> simp

@[simp] theorem RefEntry.retry_generation : e.retry.generation = e.generation := rfl

@[simp] theorem RefEntry.release_generation (lifetime : BitVec 16) (t : Time) :
    (e.release lifetime t).generation = e.generation := by
  unfold RefEntry.release
  cases e.state <;> rfl

@[simp] theorem RefEntry.fault_generation : e.fault.generation = e.generation := by
  unfold RefEntry.fault
  cases e.state <;> rfl

end Entries

theorem RefPair.takeNotice_generation (p : RefPair) (r : Ref) :
    (p.takeNotice.entry r).generation = (p.entry r).generation := by
  unfold RefPair.takeNotice
  split <;> cases r <;> simp [RefPair.entry]

section States

variable (s : State) (b c : Bank) (r : Ref)

/-- An entry replaced by one of its generation. -/
theorem State.setRef_generation {q : Ref} {e : RefEntry} (he : e.generation = (s.ref b q).generation) :
    ((s.setRef b q e).ref c r).generation = (s.ref c r).generation := by
  rw [State.setRef_ref]
  split
  next h =>
    obtain ⟨rfl, rfl⟩ := h
    exact he
  next => rfl

@[simp] theorem State.supplyLowNotice_generation :
    ((s.supplyLowNotice b).ref c r).generation = (s.ref c r).generation := by
  rw [State.supplyLowNotice_ref]
  split <;> simp

@[simp] theorem State.sendNotice_generation : ((s.sendNotice b).ref c r).generation = (s.ref c r).generation := by
  rcases s.sendNotice_cases b with h | h <;> rw [h]
  · exact State.supplyLowNotice_generation _ b c r
  · exact congrArg RefEntry.generation (State.holdNotice_ref _ b c r)

@[simp] theorem State.deliverNotice_generation :
    ((s.deliverNotice b).ref c r).generation = (s.ref c r).generation := by
  by_cases hbc : b = c
  · subst hbc
    simpa [State.deliverNotice, State.ref] using RefPair.takeNotice_generation s.refs[b] r
  · have hval : b.val ≠ c.val := fun h => hbc (Fin.ext h)
    simp [State.deliverNotice, State.ref, hval]

@[simp] theorem State.invalidateNamed_generation (names : Ref → Bool) :
    ((s.invalidateNamed b names).ref c r).generation = (s.ref c r).generation := by
  have hnamed (e : RefEntry) (q : Ref) : (if names q then e.invalidate else e).generation = e.generation := by
    split <;> simp
  refine (State.setRef_generation _ b c r ?_).trans (s.setRef_generation b c r (hnamed _ .a))
  rw [State.setRef_ref, if_neg (by simp)]
  exact hnamed _ .b

@[simp] theorem State.failConversion_generation :
    ((s.failConversion b).ref c r).generation = (s.ref c r).generation :=
  s.setRef_generation b c r rfl

@[simp] theorem State.dropLease_generation : ((s.dropLease b).ref c r).generation = (s.ref c r).generation := by
  unfold State.dropLease
  dsimp only
  rw [State.mapContext_ref]
  exact s.setRef_generation b c r (by simp)

@[simp] theorem State.finish_generation (k : MeasureEnd) :
    ((s.finish b k).ref c r).generation = (s.ref c r).generation := by
  cases k <;> simp [State.finish, State.endMeasure, State.endFailed]

@[simp] theorem State.sendEnd_generation (k : MeasureEnd) :
    ((s.sendEnd b k).ref c r).generation = (s.ref c r).generation := by
  rcases s.sendEnd_cases b k with h | h <;> rw [h]
  · exact State.finish_generation _ b c r k
  · exact congrArg RefEntry.generation (State.mapContext_ref _ b _ c r)

@[simp] theorem State.deliverEnd_generation : ((s.deliverEnd b).ref c r).generation = (s.ref c r).generation := by
  unfold State.deliverEnd
  split <;> simp

@[simp] theorem State.abortActive_generation : ((s.abortActive b).ref c r).generation = (s.ref c r).generation := by
  cases hs : (s.bank b).seq <;>
    simp [State.abortActive, hs, State.abortStarting, State.abortReference, State.abortMeasuring, State.flushQueue,
      State.abortEntry, State.stopCell]

@[simp] theorem State.abortBank_generation : ((s.abortBank b).ref c r).generation = (s.ref c r).generation := by
  simp [State.abortBank]

@[simp] theorem State.gainLease_generation (e : RefEntry) :
    ((s.gainLease b e).ref c r).generation = (s.ref c r).generation := by
  simp [State.gainLease]

@[simp] theorem State.requestLease_generation : ((s.requestLease b).ref c r).generation = (s.ref c r).generation := by
  unfold State.requestLease
  dsimp only
  split
  · rw [State.gainLease_generation]
    exact s.setRef_generation b c r rfl
  · simp only [State.startReferenceWindow_frame, State.setSeq_ref, State.mapContext_ref]
    exact s.setRef_generation b c r rfl

@[simp] theorem State.takeGrant_generation : ((s.takeGrant b).ref c r).generation = (s.ref c r).generation := by
  unfold State.takeGrant
  split <;> simp

@[simp] theorem State.sendGrant_generation : ((s.sendGrant b).ref c r).generation = (s.ref c r).generation := by
  unfold State.sendGrant
  dsimp only
  split
  · exact State.takeGrant_generation _ b c r
  · rfl

@[simp] theorem State.grantHolder_generation : ((s.grantHolder b).ref c r).generation = (s.ref c r).generation := by
  unfold State.grantHolder
  split <;> simp

@[simp] theorem State.requestHold_generation : ((s.requestHold b).ref c r).generation = (s.ref c r).generation := by
  rw [State.requestHold, State.addHolder_eq]
  have hhold (t : State) : ((t.enterHold b).ref c r).generation = (t.ref c r).generation := by
    obtain ⟨-, -, -, -, hrefs⟩ := t.enterHold_frame b
    rw [State.ref_of_refs hrefs]
  split <;> simp [hhold]

@[simp] theorem State.takeHead_generation : ((s.takeHead b).ref c r).generation = (s.ref c r).generation := by
  unfold State.takeHead
  dsimp only
  repeat' split
  all_goals simp

@[simp] theorem State.admitCandidate_generation (x : Candidate) :
    ((s.admitCandidate b x).ref c r).generation = (s.ref c r).generation := by
  unfold State.admitCandidate
  dsimp only
  cases x with
  | schedule e d => rw [State.admit_schedule]; split <;> simp
  | ring n d => rw [State.admit_ring]; split <;> simp

@[simp] theorem State.takeNext_generation : ((s.takeNext b).ref c r).generation = (s.ref c r).generation := by
  unfold State.takeNext
  repeat' split
  all_goals simp

@[simp] theorem State.sequencerPosted_generation :
    ((s.sequencerPosted b).ref c r).generation = (s.ref c r).generation := by
  unfold State.sequencerPosted
  dsimp only
  split <;> simp

@[simp] theorem State.takeSample_generation (o : Outcome) :
    ((s.takeSample b o).ref c r).generation = (s.ref c r).generation := by
  unfold State.takeSample
  dsimp only
  repeat' split
  all_goals simp

@[simp] theorem State.takeRefTimeout_generation :
    ((s.takeRefTimeout b).ref c r).generation = (s.ref c r).generation := by
  simp [State.takeRefTimeout]

/-- Every outcome but REF_DONE. -/
theorem State.takeOutcome_generation {o : Outcome} (ho : ∀ g, o ≠ .refDone g) :
    ((s.takeOutcome b o).ref c r).generation = (s.ref c r).generation := by
  cases o with
  | refDone g => exact absurd rfl (ho g)
  | refTimeout | good | openCircuit | overflow => cases hs : (s.bank b).seq <;> simp [State.takeOutcome, hs]

theorem State.endWindowWith_generation {o : Outcome} (ho : ∀ g, o ≠ .refDone g) (x : Cell) :
    ((s.endWindowWith b x o).ref c r).generation = (s.ref c r).generation :=
  (s.setCell b x).takeOutcome_generation b c r ho

theorem senseOutcome_ne (n : BitVec 24) (g : BitVec 24) : senseOutcome n ≠ .refDone g := by
  unfold senseOutcome
  split <;> simp

@[simp] theorem State.startTimeoutExpiry_generation :
    ((s.startTimeoutExpiry b).ref c r).generation = (s.ref c r).generation := by
  unfold State.startTimeoutExpiry
  split
  · refine s.endWindowWith_generation b c r (fun g => ?_) _
    split <;> simp
  · rfl

@[simp] theorem State.refWindowTimeout_generation :
    ((s.refWindowTimeout b).ref c r).generation = (s.ref c r).generation := by
  unfold State.refWindowTimeout
  split
  · exact s.endWindowWith_generation b c r (by simp) _
  · rfl

@[simp] theorem State.senseClose_generation : ((s.senseClose b).ref c r).generation = (s.ref c r).generation := by
  unfold State.senseClose
  split
  · exact s.endWindowWith_generation b c r (senseOutcome_ne _) _
  · rfl

@[simp] theorem State.takeFirstEdge_generation :
    ((s.takeFirstEdge b).ref c r).generation = (s.ref c r).generation := by
  unfold State.takeFirstEdge
  split <;> simp

@[simp] theorem State.dueAtCell_generation : ((s.dueAtCell b).ref c r).generation = (s.ref c r).generation := by
  unfold State.dueAtCell
  split <;> simp [State.settleExpiry]
  split <;> rfl

@[simp] theorem State.grantAtSettleEnd_generation :
    ((s.grantAtSettleEnd b).ref c r).generation = (s.ref c r).generation := by
  unfold State.grantAtSettleEnd
  split <;> simp

@[simp] theorem State.supplySettleEnd_generation : (s.supplySettleEnd.ref c r).generation = (s.ref c r).generation := by
  unfold State.supplySettleEnd
  split
  · simp only [State.raiseIf_frame]
    exact foldl_keeps (fun t => (t.ref c r).generation) State.grantAtSettleEnd (by simp) _ _
  · rfl

@[simp] theorem State.deliverGrant_generation : ((s.deliverGrant b).ref c r).generation = (s.ref c r).generation := by
  unfold State.deliverGrant
  split <;> simp

@[simp] theorem State.deliverBank_generation : ((s.deliverBank b).ref c r).generation = (s.ref c r).generation := by
  simp [State.deliverBank]

@[simp] theorem State.deliverSome_generation : ((s.deliverSome b).ref c r).generation = (s.ref c r).generation := by
  cases h : s.messageDue b with
  | false => rw [State.deliverSome_of_none h]
  | true =>
    obtain ⟨notice, ending, grant, heq⟩ := State.deliverSome_of_due h
    rw [heq]
    cases notice <;> cases ending <;> cases grant <;> simp <;> rfl

@[simp] theorem State.takeDue_generation : (s.takeDue.ref c r).generation = (s.ref c r).generation := by
  rw [State.takeDue, foldl_keeps (fun t => (t.ref c r).generation) State.dueAtEntry (by simp),
    State.supplySettleEnd_generation]
  exact foldl_keeps (fun t => (t.ref c r).generation) State.dueAtCell (by simp) _ _

@[simp] theorem State.tick_generation : (s.tick.ref c r).generation = (s.ref c r).generation := by
  have hcells (t : State) : (t.tickCells.ref c r).generation = (t.ref c r).generation := rfl
  have hbase (t : State) : (t.tickTimeBase.ref c r).generation = (t.ref c r).generation := by simp
  rw [State.tick, hbase, hcells, State.deliverAll,
    foldl_keeps (fun t => (t.ref c r).generation) State.deliverBank (by simp), State.takeDue_generation]

@[simp] theorem State.pinAvdd_generation (mv : Nat) : ((s.pinAvdd mv).ref c r).generation = (s.ref c r).generation := by
  have hmarks (t : State) : (t.lowTransitionEffects.ref c r).generation = (t.ref c r).generation :=
    foldl_keeps (fun t => (t.ref c r).generation) _ (fun t b => by split <;> simp) _ _
  unfold State.pinAvdd State.moveAvdd
  repeat' split
  · rfl
  · rw [hmarks]
    rfl
  · rfl

@[simp] theorem State.postRecord_generation (g : Granted) :
    ((s.postRecord g).ref c r).generation = (s.ref c r).generation := by
  rw [State.postRecord_eq, State.postingNotices]
  cases g.requester <;> simp <;> rfl

@[simp] theorem State.enterFaulted_generation (code : FaultCode) (addr : BitVec 16) :
    ((s.enterFaulted code addr).ref c r).generation = (s.ref c r).generation := by
  rw [State.enterFaulted_ref]
  split <;> simp

@[simp] theorem State.reportFault_generation (code : FaultCode) (addr : BitVec 16) :
    ((s.reportFault code addr).ref c r).generation = (s.ref c r).generation := by
  unfold State.reportFault
  split
  iterate 3 exact s.enterFaulted_generation c r code addr
  all_goals rfl

@[simp] theorem State.takeSetupAnswer_generation (a : ReadAnswer) :
    ((s.takeSetupAnswer a).ref c r).generation = (s.ref c r).generation := by
  unfold State.takeSetupAnswer
  repeat' split
  all_goals simp
  rfl

@[simp] theorem State.writeEnable_generation (on : Bool) :
    ((s.writeEnable on).ref c r).generation = (s.ref c r).generation := by
  have hload (q : ReturnState) : ((s.enterLoading q).ref c r).generation = (s.ref c r).generation := by
    unfold State.enterLoading
    dsimp only
    split
    · rfl
    · exact State.reportFault_generation _ c r _ _
  unfold State.writeEnable
  cases s.cu.state <;> cases on <;> simp [hload] <;> rfl

/-- A publication moves the generation of the entry that the head names. -/
theorem State.takeRefDone_generation (g : BitVec 24) :
    ((s.takeRefDone b g).ref c r).generation = (s.ref c r).generation ∨
      b = c ∧ r = descRef (s.headDesc b) ∧
        ((s.takeRefDone b g).ref c r).generation = nextGeneration (s.ref c r).generation := by
  unfold State.takeRefDone
  split
  · exact .inl rfl
  · dsimp only
    split
    · refine .inl ?_
      split
      · simp only [State.startReferenceWindow_frame]
        refine (State.setRef_generation _ b c r ?_).trans ?_ <;> simp
      · simp
    · rw [State.gainLease_generation, State.setRef_ref]
      split
      next h =>
        obtain ⟨rfl, rfl⟩ := h
        exact .inr ⟨rfl, rfl, rfl⟩
      next => exact .inl rfl

end States

/-! ### Every command -/

/-- Every command but REF_DONE and the resets. -/
theorem exec_generation {c : Instr} {s t : State} (hwf : wellFormed c = true) (hsoft : ∀ on, c ≠ .softReset on)
    (hcomplete : c ≠ .softResetComplete) (hhard : c ≠ .resetNAsserted) (hdone : ∀ b, c ≠ .refDone b)
    (hstep : exec c s = .next t) (b : Bank) (r : Ref) : (t.ref b r).generation = (s.ref b r).generation := by
  have hkeeps {f : State → State} (h : (.next (whenReleased f s) : Host.Outcome State Fault Refusal) = .next t)
      (hf : ((f s).ref b r).generation = (s.ref b r).generation) :
      (t.ref b r).generation = (s.ref b r).generation :=
    released_keeps (P := fun u => (u.ref b r).generation = (s.ref b r).generation) h rfl hf
  cases c with
  | softReset on => exact absurd rfl (hsoft on)
  | softResetComplete => exact absurd rfl hcomplete
  | resetNAsserted => exact absurd rfl hhard
  | refDone d => exact absurd rfl (hdone d)
  | settleDelayExpiry | firstEdge | startTimeout | refTimeout | senseWindowClose | submit | eventCause | eventMask
  | conversionClockTick | cqGrant | cqHead | drainComplete | enable =>
    exact hkeeps hstep (by simp)
  | overflow d =>
    refine hkeeps hstep ?_
    split
    · exact s.endWindowWith_generation d b r (by simp) _
    · rfl
  | setSupply =>
    refine hkeeps hstep ?_
    split <;> rfl
  | countedEdge | admission | measure | setBank | invalidateRef | reportRefs | setSchedule | clearSchedule
  | fence | ringReadAnswer | templateReadAnswer | scheduleExpiry =>
    refine hkeeps hstep ?_
    split <;> simp
  | ringReadIssue | templateReadIssue =>
    refine hkeeps hstep ?_
    repeat' split
    all_goals simp
  | bankAbort v =>
    refine hkeeps hstep ?_
    unfold State.writeBankAbort
    split
    · exact foldl_keeps (fun t => (t.ref b r).generation) _ (fun t d => by split <;> simp) _ _
    · rfl
  | supplySettleEnd =>
    refine hkeeps hstep ?_
    split
    · simp
    · exact foldl_keeps (fun t => (t.ref b r).generation) State.deliverSome (by simp) _ _
  | lowTransition | comparatorReadsHigh | comparatorReadsLow =>
    cases hstep
    exact s.pinAvdd_generation b r _
  | statusWriteAnswer a | followingSlotWriteAnswer k a =>
    refine hkeeps hstep ?_
    split
    · rfl
    · cases a <;> simp
  | headerWriteAnswer a =>
    refine hkeeps hstep ?_
    have hheader (u : State) : (u.afterHeader.ref b r).generation = (u.ref b r).generation := by
      unfold State.afterHeader
      repeat' split
      all_goals simp
    split
    · rfl
    · cases a <;> simp [hheader]
  | setupAddrLo v | setupAddrHi v =>
    refine hkeeps hstep ?_
    simp only [State.writeSetupAddrLo, State.writeSetupAddrHi, State.writeSetupAddr]
    split <;> rfl
  | setupReadAnswer a =>
    refine hkeeps hstep ?_
    split
    · rfl
    · exact State.takeSetupAnswer_generation s.clearSetupRead b r a
  | resetNReleased =>
    cases hstep
    rfl
  | registerWriteIgnored o l v =>
    refine hkeeps hstep ?_
    rw [State.writeAccess_of_wellFormed hwf]

/-- REF_DONE in REFERENCE publishes the entry of its bank's head. -/
theorem exec_refDone_generation {s t : State} {d : Bank} (hstep : exec (.refDone d) s = .next t) (b : Bank) (r : Ref) :
    (t.ref b r).generation = (s.ref b r).generation ∨
      d = b ∧ (s.bank b).seq = .reference ∧ r = descRef (s.headDesc b) ∧
        (t.ref b r).generation = nextGeneration (s.ref b r).generation := by
  refine released_keeps (P := fun u => (u.ref b r).generation = (s.ref b r).generation ∨
    d = b ∧ (s.bank b).seq = .reference ∧ r = descRef (s.headDesc b) ∧
      (u.ref b r).generation = nextGeneration (s.ref b r).generation) hstep (.inl rfl) ?_
  split
  · by_cases hseq : (s.bank d).seq = .reference
    · rw [State.endWindowWith, State.takeOutcome_refDone (by simpa using hseq)]
      rcases State.takeRefDone_generation (s.setCell d (s.cell d).finishReference) d b r (s.cell d).gateTimer with
        h | ⟨rfl, hr, h⟩
      · exact .inl h
      · exact .inr ⟨rfl, hseq, hr, h⟩
    · refine .inl ?_
      have hkept : (s.setCell d (s.cell d).finishReference).takeOutcome d (.refDone (s.cell d).gateTimer) =
          s.setCell d (s.cell d).finishReference := by
        cases hs : (s.bank d).seq <;> simp_all [State.takeOutcome]
      rw [State.endWindowWith, hkept, State.setCell_ref]
  · exact .inl rfl

/-- Settles O54: REF_DONE publishes, and every claim of another command keeps the generation. -/
theorem generationChangesAtPublish : Obligations.GenerationChangesAtPublish := by
  intro c s t b r hwf hstep hsoft hcomplete hhard
  by_cases hdone : ∃ d, c = .refDone d
  · obtain ⟨d, rfl⟩ := hdone
    refine (exec_refDone_generation hstep b r).imp id ?_
    rintro ⟨rfl, hseq, hr, h⟩
    exact ⟨rfl, hseq, hr, h⟩
  · exact .inl (exec_generation hwf hsoft hcomplete hhard (fun d h => hdone ⟨d, h⟩) hstep b r)

end Sys2Proof.Machine
end

section
/-! PROOFS. The step, the resets (10 section 10.5), the fatal fault (10:R161) and the setup address (10:R156). -/
namespace Sys2Proof.Machine

open Sys2Proof

/-! ### The step -/

/-- Settles O1: the two rows of the step. -/
theorem stepRunsFrontCommand : Obligations.StepRunsFrontCommand :=
  ⟨fun _ _ _ => rfl, fun _ h => step_of_nil h⟩

theorem exec_next (c : Instr) (s : State) : ∃ t, exec c s = .next t := by
  cases c <;> exact ⟨_, rfl⟩

theorem State.enterLoading_pending (s : State) (r : ReturnState) : (s.enterLoading r).pending = s.pending := by simp

/-- The queue of commands is no command's. -/
theorem exec_pending (p : List Instr) (c : Instr) (s t : State) (hc : ∀ o l v, c ≠ .registerWriteIgnored o l v)
    (h : s.pending = p) (hstep : exec c s = .next t) : t.pending = p := by
  subst h
  have hkeeps {f : State → State} (h : (.next (whenReleased f s) : Host.Outcome State Fault Refusal) = .next t)
      (hf : (f s).pending = s.pending) : t.pending = s.pending :=
    released_keeps (P := fun u => u.pending = s.pending) h rfl hf
  cases c with
  | registerWriteIgnored o l v => exact absurd rfl (hc o l v)
  | settleDelayExpiry | firstEdge | startTimeout | refTimeout | senseWindowClose | submit | eventCause | eventMask
  | conversionClockTick | cqGrant | cqHead | drainComplete | enable | bankAbort | softReset | softResetComplete =>
    exact hkeeps hstep (by simp)
  | refDone | overflow | countedEdge | admission | measure | setBank | invalidateRef | reportRefs | setSupply
  | setSchedule | clearSchedule | fence | ringReadAnswer | templateReadAnswer | scheduleExpiry =>
    refine hkeeps hstep ?_
    split <;> simp
  | ringReadIssue | templateReadIssue =>
    refine hkeeps hstep ?_
    repeat' split
    all_goals simp
  | supplySettleEnd =>
    refine hkeeps hstep ?_
    split
    · simp
    · exact foldl_keeps State.pending State.deliverSome (by simp) _ _
  | lowTransition | comparatorReadsHigh | comparatorReadsLow =>
    cases hstep
    simp
  | statusWriteAnswer a | followingSlotWriteAnswer k a | headerWriteAnswer a =>
    refine hkeeps hstep ?_
    split
    · rfl
    · cases a <;> simp
  | setupAddrLo v | setupAddrHi v =>
    refine hkeeps hstep ?_
    simp only [State.writeSetupAddrLo, State.writeSetupAddrHi, State.writeSetupAddr]
    split <;> rfl
  | setupReadAnswer a =>
    refine hkeeps hstep ?_
    split <;> simp
  | resetNAsserted | resetNReleased =>
    cases hstep
    rfl

/-- Settles O2: every command answers next, and none reaches the queue. -/
theorem commandsCompleteAndKeepQueue : Obligations.CommandsCompleteAndKeepQueue := by
  intro c s
  obtain ⟨t, ht⟩ := exec_next c s
  exact ⟨t, ht, exec_keeps (P := fun u => u.pending = s.pending) (exec_pending s.pending) c s t rfl ht⟩

/-! ### The hardware reset -/

theorem whenReleased_held {f : State → State} {s : State} (h : s.resetAsserted = true) :
    whenReleased f s = s := if_pos h

theorem State.pinAvdd_held {s : State} (h : s.resetAsserted = true) (mv : Nat) : s.pinAvdd mv = { s with avdd := mv } :=
  if_pos h

/-- Settles O3: the two pin commands, and what each other command does with RESET_N asserted. -/
theorem hardwareResetHoldsBlock : Obligations.HardwareResetHoldsBlock := by
  refine ⟨⟨fun _ => rfl, fun _ => rfl⟩, fun c s h => ⟨fun mv hc => ?_, fun hset hrel hlow hhigh hread => ?_⟩⟩
  · rw [exec_avdd hc, State.pinAvdd_held h]
  · cases c
    case resetNAsserted => exact absurd rfl hset
    case resetNReleased => exact absurd rfl hrel
    case lowTransition mv => exact absurd rfl (hlow mv)
    case comparatorReadsHigh mv => exact absurd rfl (hhigh mv)
    case comparatorReadsLow mv => exact absurd rfl (hread mv)
    all_goals exact congrArg Host.Outcome.next (whenReleased_held h)

/-- Settles O4: block by block. -/
theorem resetStateHoldsResetValues : Obligations.ResetStateHoldsResetValues := by
  have hring (n : Ring) : State.reset.ring n = .reset := by simp [State.reset, State.ring]
  have hcell (b : Bank) : State.reset.cell b = .reset := by simp [State.reset, State.cell]
  have hentry (e : Entry) : State.reset.entry e = .reset := by simp [State.reset, State.entry]
  have href (b : Bank) (r : Ref) : State.reset.ref b r = .reset := by
    cases r <;> simp [State.reset, State.ref, RefPair.reset, RefPair.entry]
  refine ⟨rfl, hcell, href, State.resetBlocks_bank State.reset, rfl, rfl, rfl, rfl, fun b => ?_, rfl,
    fun n => ?_, rfl, rfl, rfl, rfl, hentry, rfl, rfl, rfl, rfl⟩
  · simp [State.reset, State.holder, SupplyMonitor.reset]
  · rw [hring]
    exact ⟨rfl, rfl, rfl, rfl, rfl, rfl, rfl⟩

/-! ### The soft reset (10:R162, 10:R163) -/

theorem exec_softReset {s : State} (hr : s.resetAsserted = false) (on : Bool) :
    exec (.softReset on) s = .next (s.writeSoftReset on) :=
  congrArg Host.Outcome.next (whenReleased_eq (f := fun s => s.writeSoftReset on) hr)

theorem exec_softResetComplete {s : State} (hr : s.resetAsserted = false) :
    exec .softResetComplete s = .next s.resetIfQuiet :=
  congrArg Host.Outcome.next (whenReleased_eq (f := State.resetIfQuiet) hr)

theorem State.resetBlocks_of_released {s : State} (hr : s.resetAsserted = false) :
    s.resetBlocks = { State.reset with avdd := s.avdd, draws := s.draws, pending := s.pending } := by
  rw [State.resetBlocks, hr]
  rfl

theorem State.enterResetting_eq (s : State) : s.enterResetting = { s with
    cu := { s.cu with state := .resetting }
    cells := s.cells.map fun c => { c with
      state := .stopped, mux := .none, gateTimer := 0, refCounter := 0, sensorCounter := 0 }
    sm := { s.sm with state := .off, settleTimer := 0, reading := none, holders := .replicate 4 none } } := by
  simp only [State.enterResetting, State.stopCells, mapAll_eq_map]
  rfl

/-! ### What happens in RESETTING -/

/-- Every notice in flight is taken by its own bank's entries. -/
theorem State.foldl_deliverNotice (s : State) :
    (List.finRange 4).foldl State.deliverNotice s = { s with refs := s.refs.map RefPair.takeNotice } := by
  have hrest (l : List Bank) : ∀ u : State, l.foldl State.deliverNotice u =
      { u with refs := (l.foldl State.deliverNotice u).refs } := by
    induction l with
    | nil => exact fun u => rfl
    | cons b l ih =>
      intro u
      rw [List.foldl_cons]
      exact ih (u.deliverNotice b)
  have hother (u : State) (a c : Bank) (hac : a ≠ c) : (u.deliverNotice a).refs[c] = u.refs[c] := by
    have hval : a.val ≠ c.val := fun e => hac (Fin.ext e)
    simp [State.deliverNotice, hval]
  have hrefs : ((List.finRange 4).foldl State.deliverNotice s).refs = s.refs.map RefPair.takeNotice := by
    refine Vector.ext fun i hi => ?_
    obtain ⟨u, hu, hpair⟩ :=
      (foldl_pair hother ⟨i, hi⟩ (List.finRange 4) (List.nodup_finRange 4) s).2 (List.mem_finRange _)
    have htaken : (u.deliverNotice ⟨i, hi⟩).refs[(⟨i, hi⟩ : Bank)] = u.refs[(⟨i, hi⟩ : Bank)].takeNotice := by
      simp [State.deliverNotice]
    rw [htaken, hu] at hpair
    simpa using hpair
  rw [hrest, hrefs]

section Resetting

variable {s : State} (hstate : s.cu.state = .resetting)

include hstate

theorem State.not_working_of_resetting : s.working = false := by simp [State.working, hstate]

/-- A quiet machine has nothing due. -/
theorem State.takeDue_of_resetting (hcells : ∀ b, (s.cell b).state = .stopped) (hoff : s.sm.state = .off) :
    s.takeDue = s := by
  refine State.takeDue_of_none (fun b => ?_) ?_ fun e => ?_
  · simp [Cell.settleDue, Cell.startTimeoutDue, Cell.refTimeoutDue, Cell.senseCloseDue, hcells b]
  · simp [SupplyMonitor.settleEndDue, hoff]
  · simp [State.expiryDue, hstate]

theorem State.deliverBank_of_resetting (b : Bank) : s.deliverBank b = s.deliverNotice b := by
  have hidle : (s.deliverNotice b).working = false := State.not_working_of_resetting hstate
  rw [State.deliverBank, State.deliverEnd_none (State.endInFlight_idle hidle b), State.deliverGrant_idle hidle]

theorem State.deliverAll_of_resetting : s.deliverAll = { s with refs := s.refs.map RefPair.takeNotice } := by
  have hfold := (foldl_congr_of_inv (I := fun u => u.cu.state = .resetting)
    (fun u b hu => State.deliverBank_of_resetting hu b) (fun u b hu => by simpa using hu) (List.finRange 4) s hstate).1
  exact hfold.trans s.foldl_deliverNotice

/-- No message but a notice is taken. -/
theorem State.deliverSome_of_resetting (b : Bank) :
    ∃ refs draws, s.deliverSome b = { s with refs := refs, draws := draws } := by
  cases h : s.messageDue b with
  | false => exact ⟨s.refs, s.draws, State.deliverSome_of_none h⟩
  | true =>
    obtain ⟨notice, ending, grant, heq⟩ := State.deliverSome_of_due h
    have hend (u : State) (hu : u.cu.state = .resetting) : (if ending then u.deliverEnd b else u) = u := by
      rw [State.deliverEnd_none (State.endInFlight_idle (State.not_working_of_resetting hu) b), ite_self]
    have hgrant (u : State) (hu : u.cu.state = .resetting) : (if grant then u.deliverGrant b else u) = u := by
      rw [State.deliverGrant_idle (State.not_working_of_resetting hu), ite_self]
    have hcu : (if notice then ({ s with draws := s.draws + 3 } : State).deliverNotice b
        else { s with draws := s.draws + 3 }).cu.state = .resetting := by split <;> exact hstate
    rw [heq, hend _ hcu, hgrant _ hcu]
    cases notice
    · exact ⟨_, _, rfl⟩
    · exact ⟨_, _, rfl⟩

theorem State.foldl_deliverSome_of_resetting (l : List Bank) :
    ∃ refs draws, l.foldl State.deliverSome s = { s with refs := refs, draws := draws } := by
  induction l generalizing s with
  | nil => exact ⟨s.refs, s.draws, rfl⟩
  | cons b l ih =>
    obtain ⟨refs, draws, hb⟩ := State.deliverSome_of_resetting hstate b
    obtain ⟨refs', draws', hl⟩ := ih (s := s.deliverSome b) (by rw [hb]; exact hstate)
    exact ⟨refs', draws', by rw [List.foldl_cons, hl, hb]⟩

end Resetting

theorem RefPair.takeNotice_eq :
    RefPair.takeNotice = fun p => if p.noticeDue then
      { entryA := p.entryA.supplyLow, entryB := p.entryB.supplyLow, noticeDue := false } else p := rfl

/-- Settles O5: SOFT_RESET and SOFT_RESET_COMPLETE by what is in flight, and a quiet machine in RESETTING. -/
theorem softResetWaitsForBus : Obligations.SoftResetWaitsForBus := by
  refine ⟨fun s on hr => ⟨fun hstate => ?_, fun hstate hflight => ?_, fun hstate hflight => ?_⟩,
    ⟨fun s hr hstate hflight => ?_, fun s hr hnot => ?_⟩,
    fun s hr hstate hcells hoff => ⟨?_, ?_, fun hnotice => ?_⟩⟩
  · rw [exec_softReset hr, State.writeSoftReset, if_pos hstate]
  · rw [exec_softReset hr, State.writeSoftReset, if_neg hstate, State.resetIfQuiet, if_neg (fun h => hflight h.2),
      State.enterResetting_eq]
  · have hquiet : s.enterResetting.cu.state = .resetting ∧ s.enterResetting.hp.inFlight = 0 := ⟨rfl, hflight⟩
    rw [exec_softReset hr, State.writeSoftReset, if_neg hstate, State.resetIfQuiet, if_pos hquiet,
      State.resetBlocks_of_released (s := s.enterResetting) hr]
    rfl
  · rw [exec_softResetComplete hr, State.resetIfQuiet, if_pos ⟨hstate, hflight⟩, State.resetBlocks_of_released hr]
  · rw [exec_softResetComplete hr, State.resetIfQuiet, if_neg hnot]
  · have hstopped : (s.cells.map fun c => if c.state = .stopped then c
        else if c.state = .senseWindow then { c with gateTimer := c.gateTimer - 1 }
        else { c with gateTimer := c.gateTimer + 1 }) = s.cells := by
      refine Vector.ext fun i hi => ?_
      have := hcells ⟨i, hi⟩
      simp only [State.cell] at this
      rw [Vector.getElem_map, if_pos (by simpa using this)]
    rw [exec_conversionClockTick hr, State.tick_eq, State.takeDue_of_resetting hstate hcells hoff,
      State.deliverAll_of_resetting hstate, ← RefPair.takeNotice_eq]
    simp only [hstopped, hoff, reduceCtorEq, and_false, if_false]
  · rw [State.exec_supplySettleEnd_not_due hr (by simp [SupplyMonitor.settleEndDue, hoff])]
    obtain ⟨refs, draws, h⟩ := State.foldl_deliverSome_of_resetting hstate (List.finRange 4)
    exact ⟨refs, draws, congrArg _ h⟩
  · rw [State.exec_supplySettleEnd_not_due hr (by simp [SupplyMonitor.settleEndDue, hoff]),
      foldl_id (fun b => State.deliverSome_of_none ?_)]
    have hidle := State.not_working_of_resetting hstate
    simpa [State.messageDue, State.endInFlight_idle hidle, State.grantDue, hidle] using hnotice b

/-! ### The fatal fault (10:R161) -/

theorem SchedEntry.fault_eq (x : SchedEntry) : x.fault = if x.state = .free then x else
    { x with state := .armed, held := none, phase := .requested, ending := .normal } := by
  unfold SchedEntry.fault
  cases hs : x.state <;> rfl

theorem SubRing.fault_eq (r : SubRing) : r.fault = { r with
    staging := none
    outstanding := 0
    state := match r.state with
      | .disabled => .disabled
      | .error => .error
      | _ => .idle } := by
  unfold SubRing.fault
  cases r.state <;> rfl

theorem RefPair.fault_noticeDue (p : RefPair) : p.fault.noticeDue = false := by
  unfold RefPair.fault RefPair.takeNotice
  cases h : p.noticeDue <;> simp [h]

/-- Settles O49: each block's part of the entry to FAULTED. -/
theorem fatalFaultDiscardsWork : Obligations.FatalFaultDiscardsWork := by
  intro s code addr
  refine ⟨rfl, rfl, rfl, rfl, rfl, fun b => ?_, s.enterFaulted_bank code addr, fun b r => ⟨?_, ?_⟩, rfl, fun n => ?_,
    rfl, rfl, fun e => ?_⟩
  · simp [State.enterFaulted, State.raise, State.faultBlocks, State.faultRefs, State.stopCells, State.cell, Cell.stop]
  · have hpair : (s.enterFaulted code addr).refs[b] = s.refs[b].fault := by
      simp [State.enterFaulted, State.raise, State.faultBlocks, State.faultRefs, State.stopCells]
    rw [hpair, RefPair.fault_noticeDue]
  · exact s.enterFaulted_ref code addr b r
  · have hring : (s.enterFaulted code addr).ring n = (s.ring n).fault := by
      simp [State.enterFaulted, State.raise, State.faultBlocks, State.ring]
    exact hring.trans (s.ring n).fault_eq
  · rw [← SchedEntry.fault_eq]
    simp [State.enterFaulted, State.raise, State.faultBlocks, State.entry]

/-! ### The setup address (10:R156) -/

theorem State.writeSetupAddr_of_accepted {s : State} (h : s.cu.state = .off ∨ s.cu.state = .stopped) (a : Addr) :
    s.writeSetupAddr a = { s with cu := { s.cu with setupAddr := a } } := by
  rcases h with h | h <;> simp [State.writeSetupAddr, h]

theorem State.writeSetupAddr_of_refused {s : State}
    (h : s.cu.state = .loading ∨ s.cu.state = .running ∨ s.cu.state = .stopping ∨ s.cu.state = .faulted) (a : Addr) :
    s.writeSetupAddr a = s.raise .hostError := by
  rcases h with h | h | h | h <;> simp [State.writeSetupAddr, h]

theorem State.writeSetupAddr_of_resetting {s : State} (h : s.cu.state = .resetting) (a : Addr) :
    s.writeSetupAddr a = s := by simp [State.writeSetupAddr, h]

/-- Settles O50: the three groups of controller states, and the two halves read. -/
theorem setupAddressByControllerState : Obligations.SetupAddressByControllerState := by
  intro v s hr
  have hlo : exec (.setupAddrLo v) s = .next (s.writeSetupAddr (s.cu.setupAddr.extractLsb' 32 32 ++ v)) :=
    congrArg Host.Outcome.next (whenReleased_eq (f := fun s => s.writeSetupAddrLo v) hr)
  have hhi : exec (.setupAddrHi v) s = .next (s.writeSetupAddr (v ++ s.cu.setupAddr.extractLsb' 0 32)) :=
    congrArg Host.Outcome.next (whenReleased_eq (f := fun s => s.writeSetupAddrHi v) hr)
  rw [hlo, hhi]
  refine ⟨fun h => ?_, fun h => ?_, fun h => ?_, ?_⟩
  · rw [State.writeSetupAddr_of_accepted h, State.writeSetupAddr_of_accepted h]
    exact ⟨rfl, rfl⟩
  · rw [State.writeSetupAddr_of_refused h, State.writeSetupAddr_of_refused h]
    exact ⟨rfl, rfl⟩
  · rw [State.writeSetupAddr_of_resetting h, State.writeSetupAddr_of_resetting h]
    exact ⟨rfl, rfl⟩
  · change s.cu.setupAddr.extractLsb' 32 32 ++ s.cu.setupAddr.extractLsb' 0 32 = s.cu.setupAddr
    refine BitVec.eq_of_toNat_eq ?_
    have := s.cu.setupAddr.isLt
    simp only [toNat_append_eq_add, BitVec.extractLsb'_toNat, Nat.shiftRight_eq_div_pow]
    omega

end Sys2Proof.Machine
end

section
/-! PROOFS. The events of a converter cell (01 sections 1.4 to 1.6), the judgement of samples (03 section 3.5.3) and the
claims on a reference entry (chapter 2). -/
namespace Sys2Proof.Machine

open Sys2Proof

/-! ### Commands of the cells -/

section Commands

variable {s : State} (hr : s.resetAsserted = false) (b : Bank)

include hr

theorem exec_settleDelayExpiry : exec (.settleDelayExpiry b) s = .next (s.settleExpiry b) :=
  congrArg Host.Outcome.next (whenReleased_eq (f := fun s => s.settleExpiry b) hr)

theorem exec_firstEdge : exec (.firstEdge b) s = .next (s.takeFirstEdge b) :=
  congrArg Host.Outcome.next (whenReleased_eq (f := fun s => s.takeFirstEdge b) hr)

theorem exec_startTimeout : exec (.startTimeout b) s = .next (s.startTimeoutExpiry b) :=
  congrArg Host.Outcome.next (whenReleased_eq (f := fun s => s.startTimeoutExpiry b) hr)

theorem exec_refTimeout : exec (.refTimeout b) s = .next (s.refWindowTimeout b) :=
  congrArg Host.Outcome.next (whenReleased_eq (f := fun s => s.refWindowTimeout b) hr)

theorem exec_senseWindowClose : exec (.senseWindowClose b) s = .next (s.senseClose b) :=
  congrArg Host.Outcome.next (whenReleased_eq (f := fun s => s.senseClose b) hr)

theorem exec_refDone_of_possible (h : (s.cell b).refDonePossible = true) :
    exec (.refDone b) s = .next (s.endWindowWith b (s.cell b).finishReference (.refDone (s.cell b).gateTimer)) := by
  refine congrArg _ ((whenReleased_eq hr).trans ?_)
  simp only [h, if_true]

theorem exec_overflow_of_possible (h : (s.cell b).overflowPossible = true) :
    exec (.overflow b) s = .next (s.endWindowWith b (s.cell b).endWindow .overflow) := by
  refine congrArg _ ((whenReleased_eq hr).trans ?_)
  simp only [h, if_true]

theorem exec_countedEdge_of_possible (h : (s.cell b).countPossible = true) :
    exec (.countedEdge b) s = .next (s.setCell b (s.cell b).countEdge) := by
  refine congrArg _ ((whenReleased_eq hr).trans ?_)
  simp only [h, if_true]

end Commands

theorem exec_overflow_of_not_possible {s : State} {b : Bank} (h : (s.cell b).overflowPossible = false) :
    exec (.overflow b) s = .next s := by
  refine congrArg _ (whenReleased_of_id ?_)
  simp [h]

theorem exec_countedEdge_of_not_possible {s : State} {b : Bank} (h : (s.cell b).countPossible = false) :
    exec (.countedEdge b) s = .next s := by
  refine congrArg _ (whenReleased_of_id ?_)
  simp [h]

/-! ### When an edge is taken -/

section Edges

variable {c : Cell}

theorem Cell.refDonePossible_iff : c.refDonePossible = true ↔
    c.state = .refWindow ∧ c.gateTimer.toNat < 16777215 ∧ c.refCounter.toNat ≤ 1 := by
  simp only [Cell.refDonePossible, Bool.and_eq_true, beq_iff_eq, decide_eq_true_eq, and_assoc]
  rfl

theorem Cell.sensing_iff : c.sensing = true ↔ c.state = .senseWindow ∧ c.gateTimer ≠ 0 := by
  simp only [Cell.sensing, Bool.and_eq_true, beq_iff_eq, bne_iff_ne]

theorem Cell.overflowPossible_iff : c.overflowPossible = true ↔
    c.state = .senseWindow ∧ c.gateTimer ≠ 0 ∧ c.sensorCounter.toNat = 16777215 := by
  simp only [Cell.overflowPossible, Bool.and_eq_true, Cell.sensing_iff, beq_iff_eq, and_assoc]
  rfl

theorem Cell.countPossible_iff : c.countPossible = true ↔
    (c.state = .refWindow ∧ c.gateTimer.toNat < 16777215 ∧ 1 < c.refCounter.toNat) ∨
    (c.state = .senseWindow ∧ c.gateTimer ≠ 0 ∧ c.sensorCounter.toNat < 16777215) := by
  simp only [Cell.countPossible, Bool.or_eq_true, Bool.and_eq_true, Cell.sensing_iff, beq_iff_eq, decide_eq_true_eq,
    and_assoc]
  rfl

theorem Cell.countEdge_reference (h : c.state = .refWindow) :
    c.countEdge = { c with refCounter := c.refCounter - 1 } := by
  simp only [Cell.countEdge, h]

theorem Cell.countEdge_sense (h : c.state = .senseWindow) :
    c.countEdge = { c with sensorCounter := c.sensorCounter + 1 } := by
  simp only [Cell.countEdge, h]

end Edges

/-! ### Start phase (01 section 1.4) -/

theorem State.senseClose_of_due {s : State} {b : Bank} (h : (s.cell b).senseCloseDue = true) :
    s.senseClose b = (s.setCell b (s.cell b).endWindow).takeOutcome b (senseOutcome (s.cell b).sensorCounter) :=
  if_pos h

theorem State.senseClose_of_not_due {s : State} {b : Bank} (h : (s.cell b).senseCloseDue = false) :
    s.senseClose b = s := if_neg (by simp [h])

theorem State.takeFirstEdge_of_awaiting {s : State} {b : Bank} (h : (s.cell b).state = .awaitEdge) :
    s.takeFirstEdge b = (s.setCell b (s.cell b).openWindow).senseClose b := if_pos h

theorem Cell.openWindow_reference {c : Cell} (h : c.kind = .reference) :
    c.openWindow = { c with state := .refWindow, gateTimer := 0, refCounter := c.param.setWidth 16 } := by
  simp only [Cell.openWindow, h]

theorem Cell.openWindow_sense {c : Cell} (h : c.kind = .sense) :
    c.openWindow = { c with state := .senseWindow, gateTimer := c.param, sensorCounter := 0 } := by
  simp only [Cell.openWindow, h]

theorem toNat_beq_zero {w : Nat} (x : BitVec w) : (x.toNat == 0) = (x == 0#w) := by
  rw [Bool.eq_iff_iff, beq_iff_eq, beq_iff_eq, ← BitVec.toNat_inj]
  rfl

/-- Settles O6: the settle delay, the first edge by the kind of window and its gate, and the start timeout. -/
theorem startPhaseEvents : Obligations.StartPhaseEvents := by
  refine ⟨fun b s hr hstate hcount => ?_, fun b s hr hstate => ⟨fun hkind => ?_, fun hkind hparam => ?_,
    fun hkind hparam => ?_⟩, fun b s hr hstate htimer => ⟨fun hkind => ?_, fun hkind => ?_⟩⟩
  · have hdue : (s.cell b).settleDue = true := by simp [Cell.settleDue, hstate, hcount]
    rw [exec_settleDelayExpiry hr, State.settleExpiry, if_pos hdue]
    rfl
  · rw [exec_firstEdge hr, State.takeFirstEdge_of_awaiting hstate, Cell.openWindow_reference hkind,
      State.senseClose_of_not_due (by simp [Cell.senseCloseDue])]
  · rw [exec_firstEdge hr, State.takeFirstEdge_of_awaiting hstate, Cell.openWindow_sense hkind,
      State.senseClose_of_not_due (by simpa [Cell.senseCloseDue, toNat_beq_zero] using hparam)]
  · rw [exec_firstEdge hr, State.takeFirstEdge_of_awaiting hstate, Cell.openWindow_sense hkind,
      State.senseClose_of_due (by simp [Cell.senseCloseDue, hparam])]
    simp only [State.setCell_cell_same, State.setCell_setCell, Cell.endWindow, hparam]
    rfl
  · have hdue : (s.cell b).startTimeoutDue = true := by simp [Cell.startTimeoutDue, hstate, startTimeoutTicks, htimer]
    rw [exec_startTimeout hr, State.startTimeoutExpiry, if_pos hdue, hkind]
    rfl
  · have hdue : (s.cell b).startTimeoutDue = true := by simp [Cell.startTimeoutDue, hstate, startTimeoutTicks, htimer]
    rw [exec_startTimeout hr, State.startTimeoutExpiry, if_pos hdue, hkind]
    rfl

/-! ### The low-seen flag at an outcome (03:R55) -/

/-- The context of bank `b` has SUPPLY_LOW_SEEN. -/
def State.SawLow (s : State) (b : Bank) : Prop :=
  ∃ y, (s.bank b).context = some y ∧ y.flags.supplyLowSeen = true

theorem State.SawLow.of_bank {s t : State} {b : Bank} (h : s.SawLow b) (hbank : t.bank b = s.bank b) : t.SawLow b := by
  rw [State.SawLow, hbank]
  exact h

section Low

variable {s : State} {b : Bank} {z : Context} (hz : z.flags.supplyLowSeen = true)

include hz

theorem State.setContext_sawLow : (s.setContext b z).SawLow b := ⟨z, State.setContext_context s b z, hz⟩

/-- The end of a MEASURE leaves the flag in the context. -/
theorem State.finish_sawLow (hx : (s.bank b).context = some z) (k : MeasureEnd) : (s.finish b k).SawLow b := by
  cases k with
  | complete =>
    rw [State.finish, State.endMeasure_eq hx]
    exact ⟨_, congrArg BankSeq.context (State.setBank_bank_same _ b _), hz⟩
  | failed reason =>
    rw [State.finish, State.endFailed_eq hx]
    exact ⟨_, congrArg BankSeq.context (State.setBank_bank_same _ b _), hz⟩

theorem State.sendEnd_sawLow (k : MeasureEnd) : ((s.setContext b z).sendEnd b k).SawLow b := by
  rcases s.sendEnd_setContext_cases b z k with h | h <;> rw [h]
  · exact State.finish_sawLow hz (State.setContext_context _ b z) k
  · exact State.setContext_sawLow (z := { z with endDue := some k }) hz

end Low

section Outcomes

variable {s : State} {b : Bank} {x : Context} (hx : (s.bank b).context = some x) (hlow : s.lowSeen b = true)

include hx hlow

theorem State.takeRefDone_sawLow (g : BitVec 24) : (s.takeRefDone b g).SawLow b := by
  by_cases hfirst : x.supplyFailures = 0
  · rw [State.takeRefDone_of_retry hx hlow hfirst]
    exact ⟨{ x with supplyFailures := 1, flags := { x.flags with supplyLowSeen := true } }, by simp, rfl⟩
  · rw [State.takeRefDone_of_failure hx hlow hfirst]
    exact State.sendEnd_sawLow rfl _

theorem State.takeRefTimeout_sawLow : (s.takeRefTimeout b).SawLow b := by
  rw [State.takeRefTimeout_eq hx]
  exact State.sendEnd_sawLow (by simp [hlow]) _

theorem State.takeSample_sawLow (o : Outcome) : (s.takeSample b o).SawLow b := by
  have hadd : (x.addSample o (s.lowSeen b)).flags.supplyLowSeen = true := by simp [Context.addSample, hlow]
  have hjudged : (x.judged (s.headDesc b) o (s.lowSeen b)).flags.supplyLowSeen = true := hadd
  by_cases hmore : x.sampleNo < descSamples (s.headDesc b)
  · rw [State.takeSample_of_next hx o hmore]
    exact State.SawLow.of_bank (State.setContext_sawLow (s := s) (b := b)
      (z := { x.addSample o (s.lowSeen b) with sampleNo := x.sampleNo + 1 }) hadd) (by simp)
  · have hlast := Nat.le_of_not_lt hmore
    by_cases hnext : x.entryPos + 1 < descChannelCount (s.headDesc b)
    · rw [State.takeSample_of_entry hx o hlast hnext]
      exact State.SawLow.of_bank (State.setContext_sawLow (s := s) (b := b)
        (z := (x.judged (s.headDesc b) o (s.lowSeen b)).begin (x.entryPos + 1)) hjudged) (by simp)
    · rw [State.takeSample_of_end hx o hlast (Nat.le_of_not_lt hnext)]
      exact State.sendEnd_sawLow hjudged _

end Outcomes

/-! ### The ends of the windows (01 sections 1.5 and 1.6) -/

/-- Settles O7: each end of a window by its counters, and the flag in every outcome that the sequencer takes. -/
theorem windowsEndWithOutcome : Obligations.WindowsEndWithOutcome := by
  refine ⟨fun b s hr hstate => ⟨fun hcount htimer => ?_, fun htimer => ?_⟩,
    fun b s hr hstate => ⟨fun hgate hcount => ?_, fun hgate hcount => ?_, fun hgate hcount => ?_, fun hgate => ?_⟩,
    fun b o s => ⟨fun href hmeas => State.takeOutcome_disregarded href hmeas o, fun h x hh hl hx hfits => ?_⟩⟩
  · rw [exec_refDone_of_possible hr b (Cell.refDonePossible_iff.mpr ⟨hstate, by omega, by omega⟩)]
    rfl
  · have hdue : (s.cell b).refTimeoutDue = true := by simp [Cell.refTimeoutDue, hstate, gateTimerMax, htimer]
    rw [exec_refTimeout hr, State.refWindowTimeout, if_pos hdue]
    rfl
  · rw [exec_senseWindowClose hr, State.senseClose_of_due (by simp [Cell.senseCloseDue, hstate, hgate]), senseOutcome,
      if_pos hcount]
    rfl
  · rw [exec_senseWindowClose hr, State.senseClose_of_due (by simp [Cell.senseCloseDue, hstate, hgate]), senseOutcome,
      if_neg (by omega)]
    rfl
  · rw [exec_overflow_of_possible hr b (Cell.overflowPossible_iff.mpr ⟨hstate, hgate, hcount⟩)]
    rfl
  · exact exec_overflow_of_not_possible (by simp [Cell.overflowPossible, Cell.sensing, hgate])
  · have hlow : s.lowSeen b = true := by simp [State.lowSeen, hh, hl]
    rcases hfits with ⟨hseq, rfl | ⟨g, rfl⟩⟩ | ⟨hseq, rfl | ⟨n, rfl | rfl⟩⟩
    · rw [State.takeOutcome_refTimeout hseq]
      exact State.takeRefTimeout_sawLow hx hlow
    · rw [State.takeOutcome_refDone hseq]
      exact State.takeRefDone_sawLow hx hlow g
    all_goals
      simp only [State.takeOutcome, hseq]
      exact State.takeSample_sawLow hx hlow _

/-- Settles O8: the counted edge by the cell's state. -/
theorem countedEdgeChangesOneCounter : Obligations.CountedEdgeChangesOneCounter := by
  refine fun b s hr => ⟨fun hstate htimer hcount => ?_, fun hstate hgate hcount => ?_, fun hstate hgate => ?_,
    fun hstate => ?_⟩
  · rw [exec_countedEdge_of_possible hr b (Cell.countPossible_iff.mpr (.inl ⟨hstate, htimer, hcount⟩)),
      Cell.countEdge_reference hstate]
  · rw [exec_countedEdge_of_possible hr b (Cell.countPossible_iff.mpr (.inr ⟨hstate, hgate, hcount⟩)),
      Cell.countEdge_sense hstate]
  · exact exec_countedEdge_of_not_possible (by simp [Cell.countPossible, Cell.sensing, hstate, hgate])
  · refine exec_countedEdge_of_not_possible ?_
    rcases hstate with h | h <;> simp [Cell.countPossible, Cell.sensing, h]

/-! ### Samples and channel entries (03:R60 to 03:R62) -/

theorem noteRejection_error (first : Option Rejection) (r : Rejection) :
    noteRejection first (.error r) = some (first.getD r) := by
  cases first <;> rfl

theorem limitResult_eq (d : Bytes) (good ratio : Nat) :
    limitResult d good ratio =
      if descLimits d = false ∨ good = 0 then .none
      else if ratio < (descLimitLow d).toNat then .below
      else if (descLimitHigh d).toNat < ratio then .above else .inside := by
  unfold limitResult
  cases hd : descLimits d with
  | false => simp
  | true =>
    by_cases hg : good = 0
    · simp [hg]
    · simp only [Bool.true_and, Nat.pos_of_ne_zero hg, decide_true, if_true, Bool.true_eq_false, hg, or_self, if_false]
      split
      · rfl
      · split
        next hle => rw [if_neg (Nat.not_lt.mpr hle)]
        next hgt => rw [if_pos (Nat.lt_of_not_le hgt)]

theorem channelStatus_eq (a : Accumulator) (first : Option Rejection) :
    channelStatus a first =
      if a.good = 0 then
        (if first = some .overflow then .overflow
         else if first = some .supplyLow then .supplyLow else .openCircuit)
      else if a.rejected = 0 then .ok else .partialResult := by
  unfold channelStatus
  cases first with
  | none => rfl
  | some r => cases r <;> rfl

/-- Settles O13: each outcome with the flag clear and set, the completed entry, its status, and the copied n_ref. -/
theorem sampleJudgedAndEntryCompleted : Obligations.SampleJudgedAndEntryCompleted := by
  refine ⟨fun x low n => ⟨?_, ?_, ?_, ?_⟩, fun x d status => ?_, channelStatus_eq, fun x l hl => ?_⟩
  · rintro rfl
    simp [Context.addSample, judgeSample, Accumulator.add, noteRejection]
  · rintro rfl
    simp [Context.addSample, judgeSample, Accumulator.add, noteRejection_error]
  · rintro rfl
    simp [Context.addSample, judgeSample, Accumulator.add, noteRejection_error]
  · rintro rfl o -
    simp [Context.addSample, judgeSample, Accumulator.add, noteRejection_error]
  · dsimp only
    rw [← limitResult_eq]
    simp only [Context.completeEntry, Context.channelEntry, Bool.or_assoc]
  · simp [Context.ratioNRef, hl]

/-! ### Claims on an entry (chapter 2) -/

theorem nextGeneration_ne_zero (g : BitVec 16) : nextGeneration g ≠ 0 := by
  unfold nextGeneration
  split
  · decide
  next h =>
    intro hzero
    bv_omega

theorem RefEntry.young_iff (e : RefEntry) (life : BitVec 16) (now : Time) :
    e.young life now = true ↔ (now - e.publishedAt).toNat < life.toNat * 1000 := decide_eq_true_iff

/-- Settles O14: each claim by the state and the marks of its entry. -/
theorem referenceEntryOperations : Obligations.ReferenceEntryOperations := by
  refine ⟨⟨fun e n force life now => ?_, fun e n force now => ?_, fun e => ⟨rfl, rfl⟩⟩,
    ⟨fun e g n now => ?_, fun e g n now => nextGeneration_ne_zero _, fun e => rfl⟩,
    fun e life now => ⟨fun h => ?_, fun h hyoung => ?_, fun h hold => ?_⟩, fun b c r s => ?_,
    fun e b r now => ⟨?_, rfl, rfl⟩⟩
  · simp only [RefEntry.isHit, Bool.and_eq_true, beq_iff_eq, Bool.not_eq_true', RefEntry.young_iff, and_assoc]
  · simp [RefEntry.isHit, RefEntry.young]
  · have hmarks : (if e.revokePending || e.supplyRevoke then RefState.revoked else .valid) =
        if e.revokePending = false ∧ e.supplyRevoke = false then .valid else .revoked := by
      cases e.revokePending <;> cases e.supplyRevoke <;> rfl
    rw [RefEntry.publish, hmarks, nextGeneration]
  · simp [RefEntry.release, h]
  · have hy : e.young life now = true := (e.young_iff life now).mpr hyoung
    simp [RefEntry.release, h, hy]
  · have hy : e.young life now = false := by
      rw [Bool.eq_false_iff, Ne, RefEntry.young_iff]
      exact Nat.not_lt.mpr hold
    simp [RefEntry.release, h, hy]
  · dsimp only
    rw [State.supplyLowNotice_ref]
    by_cases hbc : b = c
    · rw [if_pos hbc, if_neg (by simpa using hbc)]
      unfold RefEntry.supplyLow RefEntry.invalidate
      cases (s.ref c r).state <;> rfl
    · rw [if_neg hbc, if_pos hbc]
  · change e.snapAge now = _
    rw [RefEntry.snapAge, RefEntry.age]
    split
    · rfl
    · split <;> omega

end Sys2Proof.Machine
end

section
/-! PROOFS. The fetch unit and the slot writes: SUBMIT, the answers of the host port, the notices of a posting, and
the descriptors that are carried out in their staging slot. -/
namespace Sys2Proof.Machine

open Sys2Proof

/-! ### SUBMIT (06:R95) -/

theorem RingState.busy_iff (q : RingState) :
    q.busy = true ↔ q = .fetching ∨ q = .staged ∨ q = .blocked ∨ q = .posting ∨ q = .fenced := by
  cases q <;> simp [RingState.busy]

/-- The test of 06:R95, which SUBMIT applies in RUNNING. -/
theorem SubRing.accepts_iff (r : SubRing) (t : Index) :
    r.accepts t = true ↔ r.state ≠ .disabled ∧ r.state ≠ .error ∧ (t - r.consumed).toNat ≤ r.size ∧
      (r.state = .fetching ∨ r.state = .staged ∨ r.state = .blocked ∨ r.state = .posting ∨ r.state = .fenced →
        t ≠ r.consumed) := by
  rw [← RingState.busy_iff]
  cases h : r.state.busy <;> simp [SubRing.accepts, h, and_assoc]

section
variable {s : State} {v : BitVec 32}

theorem exec_submit (hr : s.resetAsserted = false) : exec (.submit v) s = .next (s.writeSubmit v) :=
  congrArg Host.Outcome.next (whenReleased_eq hr)

theorem State.writeSubmit_of_accepted (h : s.cu.state = .running)
    (hok : (s.ring (submitRing v)).accepts (submitTail v) = true) :
    s.writeSubmit v = s.setRing (submitRing v) { s.ring (submitRing v) with tail := submitTail v } := by
  simp [State.writeSubmit, h, hok]

theorem State.writeSubmit_of_refused (h : s.cu.state ≠ .resetting)
    (hno : ¬ (s.cu.state = .running ∧ (s.ring (submitRing v)).accepts (submitTail v) = true)) :
    s.writeSubmit v = s.raise .hostError := by
  rw [State.writeSubmit, if_neg h, if_neg hno]

end

/-- Settles O29: by the controller state, and in RUNNING by the test of the ring. -/
theorem submitAcceptedOrRefused : Obligations.SubmitAcceptedOrRefused := by
  intro v s hr
  rw [← submitTail_eq, ← submitRing_eq]
  refine ⟨fun hrun hok => ?_, fun hrun hno => ?_, fun hrun hres => ?_, fun hres => ?_⟩
  · rw [exec_submit hr, State.writeSubmit_of_accepted hrun ((SubRing.accepts_iff _ _).mpr hok)]
  · rw [exec_submit hr, State.writeSubmit_of_refused (by simp [hrun]) fun h =>
      hno ((SubRing.accepts_iff _ _).mp h.2)]
    rfl
  · rw [exec_submit hr, State.writeSubmit_of_refused hres fun h => hrun h.1]
    rfl
  · rw [exec_submit hr, State.writeSubmit, if_pos hres]

/-! ### What an error report does by controller state (10:R159, 10:R160, 10:R162) -/

section
variable {s : State} (code : FaultCode) (addr : BitVec 16)

theorem State.reportFault_of_working (h : s.cu.state = .running ∨ s.cu.state = .stopping) :
    s.reportFault code addr = s.enterFaulted code addr := by
  rcases h with h | h <;> rw [State.reportFault, h]

theorem min_succ_subsequentMax (k : Nat) : min (k + 1) subsequentMax = if k < 15 then k + 1 else 15 := by
  rw [subsequentMax]
  split <;> omega

theorem State.reportFault_of_faulted (h : s.cu.state = .faulted) :
    s.reportFault code addr = { s with cu := { s.cu with
      subsequent := if s.cu.subsequent < 15 then s.cu.subsequent + 1 else 15 } } := by
  rw [State.reportFault, h, min_succ_subsequentMax]

theorem State.reportFault_of_resetting (h : s.cu.state = .resetting) : s.reportFault code addr = s := by
  rw [State.reportFault, h]

end

/-! ### Answers to writes (06:R113, 08:R136) -/

/-- An answered write leaves the list; an OKAY answer then has its own effect, a bus error is reported. -/
def State.answerWrite (s : State) (ws : List BusWrite) (code : FaultCode) (w : BusWrite) (okay : State → State) :
    WriteAnswer → State
  | .okay => okay (s.setWrites ws)
  | .busError => (s.setWrites ws).reportFault code (w.addr.setWidth 16)

section
variable {s : State} {k : Nat} {w : BusWrite} {ws : List BusWrite} (a : WriteAnswer) (hr : s.resetAsserted = false)
include hr

theorem exec_statusWriteAnswer (h : takeWrite .status 0 s.hp.writes = some (w, ws)) :
    exec (.statusWriteAnswer a) s = .next (s.answerWrite ws .statusWriteError w (fun t => t) a) := by
  refine congrArg _ ((whenReleased_eq hr).trans ?_)
  simp only [h]
  cases a <;> rfl

theorem exec_followingSlotWriteAnswer (h : takeWrite .following k s.hp.writes = some (w, ws)) :
    exec (.followingSlotWriteAnswer k a) s = .next (s.answerWrite ws .cqWriteError w State.afterFollowing a) := by
  refine congrArg _ ((whenReleased_eq hr).trans ?_)
  simp only [h]
  cases a <;> rfl

theorem exec_headerWriteAnswer (h : takeWrite .header 0 s.hp.writes = some (w, ws)) :
    exec (.headerWriteAnswer a) s = .next (s.answerWrite ws .cqWriteError w State.afterHeader a) := by
  refine congrArg _ ((whenReleased_eq hr).trans ?_)
  simp only [h]
  cases a <;> rfl

end

theorem State.not_working_of_state {s : State} (h : s.cu.state = .faulted ∨ s.cu.state = .resetting) :
    s.working = false := by
  rcases h with h | h <;> simp [State.working, h]

theorem State.afterFollowing_of_not_working {s : State} (h : s.working = false) : s.afterFollowing = s := by
  simp [State.afterFollowing, h]

theorem State.afterHeader_of_not_working {s : State} (h : s.working = false) : s.afterHeader = s := by
  simp [State.afterHeader, h]

/-- Settles O43: the answer by the controller state, the same for the following slots and for the header. -/
theorem slotWriteErrorIsFatal : Obligations.SlotWriteErrorIsFatal := by
  intro s k w ws hr
  refine ⟨fun htake => ?_, fun htake => ?_⟩
  · simp only [exec_followingSlotWriteAnswer _ hr htake, State.answerWrite]
    exact ⟨fun h => congrArg _ (State.reportFault_of_working _ _ h),
      fun h => congrArg _ (State.reportFault_of_faulted _ _ h),
      fun h => congrArg _ (State.afterFollowing_of_not_working (State.not_working_of_state (s := s.setWrites ws) h)),
      fun h => congrArg _ (State.reportFault_of_resetting _ _ h)⟩
  · simp only [exec_headerWriteAnswer _ hr htake, State.answerWrite]
    exact ⟨fun h => congrArg _ (State.reportFault_of_working _ _ h),
      fun h => congrArg _ (State.reportFault_of_faulted _ _ h),
      fun h => congrArg _ (State.afterHeader_of_not_working (State.not_working_of_state (s := s.setWrites ws) h)),
      fun h => congrArg _ (State.reportFault_of_resetting _ _ h)⟩

/-! ### The status area (06:R112, 06:R113) -/

theorem leBytes_two (x : BitVec 16) : leBytes 2 x = [x.extractLsb' 0 8, x.extractLsb' 8 8] := by
  have low : x.setWidth 8 = x.extractLsb' 0 8 := by
    apply BitVec.eq_of_toNat_eq; simp
  have high : (x >>> 8).setWidth 8 = x.extractLsb' 8 8 := by
    apply BitVec.eq_of_toNat_eq; simp
  rw [leBytes, leBytes, leBytes, low, high]

theorem State.statusBytes_eq (s : State) : s.statusBytes =
    [(s.ring 0).consumed.extractLsb' 0 8, (s.ring 0).consumed.extractLsb' 8 8,
      (s.ring 1).consumed.extractLsb' 0 8, (s.ring 1).consumed.extractLsb' 8 8,
      (s.ring 2).consumed.extractLsb' 0 8, (s.ring 2).consumed.extractLsb' 8 8,
      (s.ring 3).consumed.extractLsb' 0 8, (s.ring 3).consumed.extractLsb' 8 8,
      (s.ring 0).state.code, (s.ring 1).state.code, (s.ring 2).state.code, (s.ring 3).state.code, 0, 0, 0, 0] := by
  simp only [State.statusBytes, leBytes_two]
  rfl

/-- Settles O37: the bytes of the write, and its answer by the controller state. -/
theorem statusAreaWrittenAndAnswered : Obligations.StatusAreaWrittenAndAnswered := by
  refine ⟨fun s => ?_, fun s before after w hr hw hbefore hkind => ?_⟩
  · rw [State.writeStatus, State.statusBytes_eq]
    rfl
  · have htake : takeWrite .status 0 s.hp.writes = some (w, before ++ after) :=
      hw ▸ takeWrite_oldest .status before after w hbefore hkind
    simp only [exec_statusWriteAnswer _ hr htake, State.answerWrite]
    exact ⟨rfl, fun h => congrArg _ (State.reportFault_of_working _ _ h),
      fun h => congrArg _ (State.reportFault_of_faulted _ _ h),
      fun h => congrArg _ (State.reportFault_of_resetting _ _ h)⟩

/-! ### The notices of a posting (06:R108 to 06:R110, 09:R147) -/

theorem State.releaseFence_of_waiting {s : State} {n : Ring}
    (h : ¬ ((s.ring n).state = .fenced ∧ (s.ring n).outstanding = 0)) : s.releaseFence n = s := if_neg h

theorem State.releaseFence_of_empty {s : State} {n : Ring} {d : Bytes} (h : (s.ring n).state = .fenced)
    (ho : (s.ring n).outstanding = 0) (hd : (s.ring n).staging = some d) :
    s.releaseFence n =
      s.formFetchRecord n (fenceRecord n d (s.ring n).stagedAt s.now (s.ring n).fenceCount) := by
  simp only [State.releaseFence, h, ho, hd, and_self, if_true, Option.getD_some]

/-- Settles O36: the two blocks' parts of a posting's notice. -/
theorem noticesOfPosting : Obligations.NoticesOfPosting := by
  refine ⟨fun n s => ⟨fun hwait => ?_, fun d hfenced hone hd => ?_, fun p ps hp => ⟨fun hs => ?_, fun e he => ?_,
    fun hs hsrc => ?_⟩⟩, fun x => ⟨fun hx he => ?_, fun hx he => ?_, fun hx => ?_⟩⟩
  · refine State.releaseFence_of_waiting ?_
    rw [State.setRing_ring_same]
    exact fun ⟨hf, ho⟩ => hwait ⟨hf, Nat.sub_eq_zero_iff_le.mp ho⟩
  · rw [State.outstandingFalls, State.releaseFence_of_empty (d := d) (by simpa using hfenced) (by simp [hone])
      (by simpa using hd)]
    simp only [State.formFetchRecord, State.setRing_ring_same, State.setRing_setRing, hone]
    rfl
  · simp only [State.fetchPosted, hs, hp, List.tail_cons]
  · simp only [State.fetchPosted, he, hp, List.tail_cons]
    cases p.status <;> rfl
  · simp only [State.fetchPosted, hsrc, hp, List.tail_cons]
    rfl
  · simp only [SchedEntry.posted, hx, he]
  · simp only [SchedEntry.posted, hx, he]
  · simp only [SchedEntry.posted, hx]

end Sys2Proof.Machine
end

section
/-! PROOFS. The answers to descriptor reads, and the descriptors that are carried out in their staging slot
(06 sections 6.3 to 6.6). -/
namespace Sys2Proof.Machine

open Sys2Proof

/-! ### SET_SUPPLY and FENCE (05:R90, 06:R110) -/

theorem SupplyMonitor.setParams_of_off {m : SupplyMonitor} (h : m.state = .off) (p : SupplyParams) :
    m.setParams p = { m with level := p.level, settleTime := p.settleTime, pendingParams := none } := by
  simp only [SupplyMonitor.setParams, h, SupplyMonitor.applyPending_eq]

theorem SupplyMonitor.setParams_of_on {m : SupplyMonitor} (h : m.state ≠ .off) (p : SupplyParams) :
    m.setParams p = { m with pendingParams := some p } := by
  cases hs : m.state with
  | off => exact absurd hs h
  | settling | watching => simp only [SupplyMonitor.setParams, hs]

/-- Settles O35: SET_SUPPLY by the monitor's state, FENCE by the outstanding count. -/
theorem setSupplyAndFence : Obligations.SetSupplyAndFence := by
  refine ⟨fun n s d hr hw hs hd hk => ⟨fun hoff => ?_, fun hon => ?_⟩,
    fun n s d hr hw hs hd hk => ⟨fun hout => ?_, fun hzero => ?_⟩⟩
  · refine congrArg _ ((whenReleased_eq hr).trans ?_)
    simp only [State.stagedKind_eq s n .setSupply d hw hs hd hk, SupplyMonitor.setParams_of_off hoff,
      State.formFetchRecord, setSupplyRecord, fetchRecord, hk, hoff]
    rfl
  · refine congrArg _ ((whenReleased_eq hr).trans ?_)
    have hb : (s.sm.state == .off) = false := beq_false_of_ne hon
    simp only [State.stagedKind_eq s n .setSupply d hw hs hd hk, SupplyMonitor.setParams_of_on hon,
      State.formFetchRecord, setSupplyRecord, fetchRecord, hk, hb]
    rfl
  · refine congrArg _ ((whenReleased_eq hr).trans ?_)
    simp only [State.stagedKind_eq s n .fence d hw hs hd hk]
    exact State.releaseFence_of_waiting (by simp [hout])
  · refine congrArg _ ((whenReleased_eq hr).trans ?_)
    simp only [State.stagedKind_eq s n .fence d hw hs hd hk]
    rw [State.releaseFence_of_empty (d := d) (by simp) (by simpa using hzero) (by simpa using hd)]
    simp only [State.formFetchRecord, fenceRecord, fetchRecord, hk, hzero, State.setRing_ring_same,
      State.setRing_setRing]
    rfl

/-! ### SET_SCHEDULE and CLEAR_SCHEDULE (09:R140, 09:R141, 09:R148) -/

theorem SchedEntry.canArm_iff (x : SchedEntry) (r : Bool) :
    x.canArm r = true ↔ x.state = .free ∨ (x.state = .armed ∧ r = true) := by
  simp [SchedEntry.canArm]

theorem SchedEntry.canReplace_iff (x : SchedEntry) (r : Bool) :
    x.canReplace r = true ↔ (x.state = .fetching ∨ x.state = .ready ∨ x.state = .outstanding) ∧ r = true := by
  simp [SchedEntry.canReplace, or_assoc]

theorem msToMicros_eq_zero (ms : BitVec 16) : msToMicros ms = 0 ↔ ms = 0 := by
  refine ⟨fun h => ?_, fun h => h ▸ rfl⟩
  have hlt := ms.isLt
  have hmod := congrArg BitVec.toNat h
  simp only [msToMicros, BitVec.toNat_ofNat, BitVec.ofNat_eq_ofNat] at hmod
  apply BitVec.eq_of_toNat_eq
  simp only [BitVec.ofNat_eq_ofNat, BitVec.toNat_ofNat]
  omega

/-- An entry armed now is due at once exactly in RUNNING with a first delay of 0 (log 3). -/
theorem State.expiryDue_armed (s : State) (e : Entry) (x : SchedEntry) (d : Bytes) :
    (s.setEntry e (x.arm d s.now)).expiryDue e = true ↔ s.cu.state = .running ∧ descFirstDelay d = 0 := by
  rw [State.expiryDue_iff, State.setEntry_entry_same, ← msToMicros_eq_zero]
  simp [SchedEntry.arm, State.setEntry, State.now]

/-- 09:R140 and 09:R141. The scheduler takes a SET_SCHEDULE by the state of the entry it names. -/
theorem State.setScheduleClaim_of_canArm {s : State} {d : Bytes}
    (h : (s.entry (descEntry d)).canArm (descReplace d) = true)
    (hlater : ¬ (s.cu.state = .running ∧ descFirstDelay d = 0)) :
    s.setScheduleClaim d = (s.setEntry (descEntry d) ((s.entry (descEntry d)).arm d s.now), true) := by
  have hdue := mt (State.expiryDue_armed s (descEntry d) (s.entry (descEntry d)) d).mp hlater
  simp only [State.setScheduleClaim, h, if_true, if_neg hdue]

theorem State.setScheduleClaim_of_canArm_now {s : State} {d : Bytes}
    (h : (s.entry (descEntry d)).canArm (descReplace d) = true) (hrun : s.cu.state = .running)
    (hzero : descFirstDelay d = 0) :
    s.setScheduleClaim d = (s.setEntry (descEntry d) { (s.entry (descEntry d)).arm d s.now with
      state := .fetching, nextExpiry := s.now + msToMicros (descPeriod d) }, true) := by
  have hdue := (State.expiryDue_armed s (descEntry d) (s.entry (descEntry d)) d).mpr ⟨hrun, hzero⟩
  have hnow : s.now + msToMicros (descFirstDelay d) = s.now := by
    rw [(msToMicros_eq_zero _).mpr hzero]; exact BitVec.add_zero _
  simp only [State.setScheduleClaim, h, if_true, if_pos hdue]
  rw [State.expire_of_armed (by rw [State.setEntry_entry_same]; rfl), State.setEntry_entry_same,
    State.setEntry_setEntry]
  simp only [SchedEntry.advance, SchedEntry.arm, hnow]

theorem State.setScheduleClaim_of_replace {s : State} {d : Bytes}
    (harm : ¬ (s.entry (descEntry d)).canArm (descReplace d) = true)
    (h : (s.entry (descEntry d)).canReplace (descReplace d) = true) :
    s.setScheduleClaim d = (s.setEntry (descEntry d) ((s.entry (descEntry d)).replaceWith d), true) := by
  simp only [State.setScheduleClaim, if_neg harm, if_pos h]

theorem State.setScheduleClaim_of_busy {s : State} {d : Bytes}
    (harm : ¬ (s.entry (descEntry d)).canArm (descReplace d) = true)
    (h : ¬ (s.entry (descEntry d)).canReplace (descReplace d) = true) : s.setScheduleClaim d = (s, false) := by
  simp only [State.setScheduleClaim, if_neg harm, if_neg h]

/-- The answer to a SET_SCHEDULE: the claim, and its record. -/
theorem exec_setSchedule {n : Ring} {s t : State} {d : Bytes} {ok : Bool} (hr : s.resetAsserted = false)
    (hw : s.cu.state = .running ∨ s.cu.state = .stopping) (hs : (s.ring n).state = .staged)
    (hd : (s.ring n).staging = some d) (hk : descKind d = 6) (hclaim : s.setScheduleClaim d = (t, ok)) :
    exec (.setSchedule n) s = .next (t.formFetchRecord n
      (setScheduleRecord n d (s.ring n).stagedAt (s.entry (descEntry d)).state ok)) := by
  refine congrArg _ ((whenReleased_eq hr).trans ?_)
  simp only [State.stagedKind_eq s n .setSchedule d hw hs hd hk, hclaim]

theorem SchedEntry.clear_eq (x : SchedEntry) :
    x.clear = match x.state with
      | .free => { x with skipped := 0 }
      | .armed | .fetching => { x with state := .free, skipped := 0 }
      | .ready => { x with state := .free, held := none, skipped := 0 }
      | .outstanding | .clearing => { x with state := .clearing, skipped := 0 } := by
  cases h : x.state <;> simp only [SchedEntry.clear, h]

/-- Settles O28: SET_SCHEDULE and CLEAR_SCHEDULE by the entry's state and REPLACE. -/
theorem scheduleSetAndCleared : Obligations.ScheduleSetAndCleared := by
  refine ⟨rfl, fun n s d hr hw hs hd hk => ⟨fun harm hlater => ?_, fun harm hrun hzero => ?_,
    fun hstate hrep => ?_, fun hbusy => ?_⟩, fun n s d hr hw hs hd hk => ?_⟩
  · rw [exec_setSchedule hr hw hs hd hk
      (State.setScheduleClaim_of_canArm ((SchedEntry.canArm_iff _ _).mpr harm) hlater)]
    simp only [State.formFetchRecord, setScheduleRecord, fetchRecord, hk]
    rfl
  · rw [exec_setSchedule hr hw hs hd hk
      (State.setScheduleClaim_of_canArm_now ((SchedEntry.canArm_iff _ _).mpr harm) hrun hzero)]
    simp only [State.formFetchRecord, setScheduleRecord, fetchRecord, hk]
    rfl
  · have harm : ¬ (s.entry (descEntry d)).canArm (descReplace d) = true := by
      rw [SchedEntry.canArm_iff]
      rcases hstate with h | h | h <;> simp [h]
    rw [exec_setSchedule hr hw hs hd hk
      (State.setScheduleClaim_of_replace harm ((SchedEntry.canReplace_iff _ _).mpr ⟨hstate, hrep⟩))]
    simp only [State.formFetchRecord, setScheduleRecord, fetchRecord, hk]
    rfl
  · have harm : ¬ (s.entry (descEntry d)).canArm (descReplace d) = true := by
      rw [SchedEntry.canArm_iff]
      rcases hbusy with h | ⟨hrep, h⟩
      · simp [h]
      · rcases h with h | h | h | h <;> simp [h, hrep]
    have hrep : ¬ (s.entry (descEntry d)).canReplace (descReplace d) = true := by
      rw [SchedEntry.canReplace_iff]
      rcases hbusy with h | ⟨hrep, -⟩
      · simp [h]
      · simp [hrep]
    rw [exec_setSchedule hr hw hs hd hk (State.setScheduleClaim_of_busy harm hrep)]
    simp only [State.formFetchRecord, setScheduleRecord, fetchRecord, hk]
    rfl
  · refine congrArg _ ((whenReleased_eq hr).trans ?_)
    simp only [State.stagedKind_eq s n .clearSchedule d hw hs hd hk, SchedEntry.clear_eq, State.formFetchRecord,
      clearScheduleRecord, fetchRecord, hk]
    cases (s.entry (descEntry d)).state <;> rfl

/-! ### Answers to descriptor reads (06:R99 to 06:R102, 06:R114, 09:R145) -/

section
variable {s : State} (hr : s.resetAsserted = false)
include hr

theorem exec_ringReadAnswer {n : Ring} {p : Addr} (h : s.hp.read = some (.ring n p)) (a : ReadAnswer) :
    exec (.ringReadAnswer a) s = .next ((s.setRead none).takeRingAnswer n a) := by
  refine congrArg _ ((whenReleased_eq hr).trans ?_)
  simp only [h]

theorem exec_templateReadAnswer {e : Entry} {p : Addr} (h : s.hp.read = some (.template e p)) (a : ReadAnswer) :
    exec (.templateReadAnswer a) s = .next ((s.setRead none).takeTemplateAnswer e a) := by
  refine congrArg _ ((whenReleased_eq hr).trans ?_)
  simp only [h]

end

section
variable {s : State} {n : Ring} {e : Entry}

theorem State.takeRingAnswer_of_fetching (hw : s.cu.state = .running ∨ s.cu.state = .stopping)
    (h : (s.ring n).state = .fetching) (d : Bytes) :
    s.takeRingAnswer n (.okay d) = s.stageAnswer n d ∧ s.takeRingAnswer n .busError = s.ringError n := by
  simp [State.takeRingAnswer, State.working_of_state hw, h]

theorem State.takeRingAnswer_of_not_working (h : s.working = false) (a : ReadAnswer) :
    s.takeRingAnswer n a = s := by
  simp [State.takeRingAnswer, h]

theorem State.takeTemplateAnswer_of_not_working (h : s.working = false) (a : ReadAnswer) :
    s.takeTemplateAnswer e a = s := by
  simp [State.takeTemplateAnswer, h]

theorem State.takeTemplateAnswer_of_other
    (h : ¬ ((s.entry e).state = .fetching ∧ (s.entry e).phase = .reading)) (a : ReadAnswer) :
    s.takeTemplateAnswer e a = s := by
  refine if_neg ?_
  simp only [Bool.and_eq_true, beq_iff_eq]
  exact fun ⟨⟨_, hstate⟩, hphase⟩ => h ⟨hstate, hphase⟩

section
variable (hw : s.cu.state = .running ∨ s.cu.state = .stopping) (hstate : (s.entry e).state = .fetching)
  (hphase : (s.entry e).phase = .reading)
include hw hstate hphase

theorem State.takeTemplateAnswer_of_valid {d : Bytes} (hd : checkTemplate d = none) :
    s.takeTemplateAnswer e (.okay d) = s.setEntry e { s.entry e with state := .ready, held := some d } := by
  simp [State.takeTemplateAnswer, State.working_of_state hw, hstate, hphase, hd]

theorem State.takeTemplateAnswer_of_invalid {d : Bytes} {f : CheckFailure} (hd : checkTemplate d = some f) :
    s.takeTemplateAnswer e (.okay d) = s.templateFails e (descTag d) f := by
  simp [State.takeTemplateAnswer, State.working_of_state hw, hstate, hphase, hd]

theorem State.takeTemplateAnswer_of_error :
    s.takeTemplateAnswer e .busError = s.templateFails e 0 ⟨.templateBusError, 0⟩ := by
  simp [State.takeTemplateAnswer, State.working_of_state hw, hstate, hphase]

end

end

theorem stagedState_of_queued {d : Bytes} (h : descKind d = 1 ∨ descKind d = 2) : stagedState d = .blocked :=
  if_pos h

theorem stagedState_of_other {d : Bytes} (h1 : descKind d ≠ 1) (h2 : descKind d ≠ 2) : stagedState d = .staged :=
  if_neg (not_or.mpr ⟨h1, h2⟩)

/-- Settles O31: staged, refused by a check, or halted by a bus error. -/
theorem ringReadAnswered : Obligations.RingReadAnswered := by
  refine ⟨rfl, fun s n p d hr hw hread hf => ⟨fun hcheck hqueued => ?_, fun hcheck h1 h2 => ?_, fun f hcheck => ?_⟩,
    fun s n p hr hw hread hf => ?_⟩
  · rw [exec_ringReadAnswer hr hread, (State.takeRingAnswer_of_fetching (s := s.setRead none) hw hf d).1]
    simp only [State.stageAnswer, hcheck, stagedState_of_queued hqueued]
    rfl
  · rw [exec_ringReadAnswer hr hread, (State.takeRingAnswer_of_fetching (s := s.setRead none) hw hf d).1]
    simp only [State.stageAnswer, hcheck, stagedState_of_other h1 h2]
    rfl
  · rw [exec_ringReadAnswer hr hread, (State.takeRingAnswer_of_fetching (s := s.setRead none) hw hf d).1]
    simp only [State.stageAnswer, hcheck, State.formFetchRecord, State.stage, State.setRing_ring_same,
      State.setRing_setRing]
    rfl
  · rw [exec_ringReadAnswer hr hread, (State.takeRingAnswer_of_fetching (s := s.setRead none) hw hf []).2]
    rfl

/-- Settles O32: by the entry that reads, and the discards outside RUNNING and STOPPING. -/
theorem templateReadAnswered : Obligations.TemplateReadAnswered := by
  refine ⟨fun s e p hr hw hread => ⟨fun hstate hphase => ⟨fun d hcheck => ?_, fun d f hcheck => ?_, ?_⟩,
    fun hother a => ?_⟩, fun s a hr hstate => ⟨fun n p hread => ?_, fun e p hread => ?_⟩⟩
  · rw [exec_templateReadAnswer hr hread,
      State.takeTemplateAnswer_of_valid (s := s.setRead none) hw hstate hphase hcheck]
    rfl
  · rw [exec_templateReadAnswer hr hread,
      State.takeTemplateAnswer_of_invalid (s := s.setRead none) hw hstate hphase hcheck]
    rfl
  · rw [exec_templateReadAnswer hr hread, State.takeTemplateAnswer_of_error (s := s.setRead none) hw hstate hphase]
    rfl
  · rw [exec_templateReadAnswer hr hread, State.takeTemplateAnswer_of_other (s := s.setRead none) hother]
    rfl
  · rw [exec_ringReadAnswer hr hread,
      State.takeRingAnswer_of_not_working (s := s.setRead none) (State.not_working_of_state hstate)]
    rfl
  · rw [exec_templateReadAnswer hr hread,
      State.takeTemplateAnswer_of_not_working (s := s.setRead none) (State.not_working_of_state hstate)]
    rfl

/-! ### INVALIDATE_REF and REPORT_REFS (02:R34, 02:R35, 02:R39, 02:R40) -/

theorem RefEntry.invalidate_eq (e : RefEntry) :
    e.invalidate = match e.state with
      | .empty => e
      | .converting => { e with revokePending := true }
      | .valid => { e with state := if e.leased then .revoked else .empty }
      | .stale => { e with state := .empty }
      | .revoked => e := by
  unfold RefEntry.invalidate
  cases e.state <;> cases e.leased <;> rfl

theorem State.invalidateNamed_ref (s : State) (b : Bank) (names : Ref → Bool) (c : Bank) (r : Ref) :
    (s.invalidateNamed b names).ref c r = if c = b ∧ names r = true then (s.ref c r).invalidate else s.ref c r := by
  by_cases hc : b = c
  · subst hc
    cases r <;> simp [State.invalidateNamed, State.setRef_ref]
  · simp [State.invalidateNamed, State.setRef_ref, hc, Ne.symm hc]

theorem State.setRef_noticeDue (s : State) (b c : Bank) (r : Ref) (x : RefEntry) :
    (s.setRef b r x).refs[c].noticeDue = s.refs[c].noticeDue := by
  by_cases h : b = c
  · subst h
    cases r <;> simp [State.setRef, RefPair.setEntry]
  · have hval : b.val ≠ c.val := fun hv => h (Fin.ext hv)
    simp [State.setRef, hval]

theorem State.invalidateNamed_noticeDue (s : State) (b : Bank) (names : Ref → Bool) (c : Bank) :
    (s.invalidateNamed b names).refs[c].noticeDue = s.refs[c].noticeDue := by
  rw [State.invalidateNamed, State.setRef_noticeDue, State.setRef_noticeDue]

theorem invalidateByte_eq (named : Bool) (e : RefEntry) :
    invalidateByte named e = if named = false then 0xFF
      else match e.state, e.leased with
        | .empty, false => 0 | .converting, false => 1 | .valid, false => 2 | .stale, false => 3
        | .revoked, false => 4 | .empty, true => 0x80 | .converting, true => 0x81 | .valid, true => 0x82
        | .stale, true => 0x83 | .revoked, true => 0x84 := by
  unfold invalidateByte
  cases named <;> cases e.state <;> cases e.leased <;> rfl

/-- Settles O34: the two kinds, whose records speak of the reference table. -/
theorem invalidateAndReportRefs : Obligations.InvalidateAndReportRefs := by
  refine ⟨fun n s d hr hw hs hd hk => ⟨(s.invalidateNamed (descBank d) (descNames d)).formFetchRecord n
    (s.invalidateRecord n d), ?_, ?_, fun c => ?_, fun c r => ?_⟩, fun n s d hr hw hs hd hk => ?_⟩
  · refine congrArg _ ((whenReleased_eq hr).trans ?_)
    simp only [State.stagedKind_eq s n .invalidateRef d hw hs hd hk]
  · simp only [State.invalidateRecord, invalidateByte_eq, fetchRecord, hk]
    rfl
  · exact s.invalidateNamed_noticeDue _ _ c
  · refine (s.invalidateNamed_ref _ _ c r).trans ?_
    rw [RefEntry.invalidate_eq]
    cases r <;> rfl
  · refine congrArg _ ((whenReleased_eq hr).trans ?_)
    simp only [State.stagedKind_eq s n .reportRefs d hw hs hd hk, State.formFetchRecord, State.reportRecord,
      fetchRecord, hk]
    rfl

end Sys2Proof.Machine
end

section
/-! PROOFS. The register window (chapter 12): which command a write is, and the fields of what a read returns. -/
namespace Sys2Proof.Machine

open Sys2Proof

/-! ### Writes (12:R171) -/

theorem allLanes_iff (l : BitVec 4) : allLanes l = true ↔ l = 15 := beq_iff_eq

theorem windowCommand_of_ignored {w : Nat} (h : w = 0 ∨ w = 2 ∨ 10 ≤ w) (v : BitVec 32) :
    windowCommand w v = none := by
  unfold windowCommand
  split <;> first | rfl | omega

/-- A write to a word that no write reaches changes nothing, whatever its lanes. -/
theorem exec_access_of_ignored {o : BitVec 6} (h : windowWord o = 0 ∨ windowWord o = 2 ∨ 10 ≤ windowWord o)
    (l : BitVec 4) (v : BitVec 32) (s : State) : exec (.registerWriteIgnored o l v) s = .next s := by
  cases hl : allLanes l with
  | false => exact exec_access_of_lanes hl o v s
  | true => exact exec_access_of_no_command hl (windowCommand_of_ignored h v) s

/-- SUBMIT reads bits 17 to 0 of the written word. -/
theorem State.writeSubmit_low (s : State) (v : BitVec 32) :
    s.writeSubmit ((v.extractLsb' 0 18).setWidth 32) = s.writeSubmit v := by
  have htail : submitTail ((v.extractLsb' 0 18).setWidth 32) = submitTail v := by
    apply BitVec.eq_of_toNat_eq
    simp only [submitTail, BitVec.toNat_setWidth, BitVec.extractLsb'_toNat, Nat.shiftRight_zero]
    omega
  have hring : submitRing ((v.extractLsb' 0 18).setWidth 32) = submitRing v := by
    apply Fin.ext
    simp only [submitRing, Fin.ofNat, BitVec.toNat_ushiftRight, BitVec.toNat_setWidth, BitVec.extractLsb'_toNat,
      Nat.shiftRight_eq_div_pow]
    omega
  rw [State.writeSubmit, htail, hring, State.writeSubmit]

theorem exec_submit_low (v : BitVec 32) (s : State) :
    exec (.submit ((v.extractLsb' 0 18).setWidth 32)) s = exec (.submit v) s := by
  have h (t : State) := State.writeSubmit_low t v
  exact congrArg Host.Outcome.next (by simp only [whenReleased, h])

/-! ### The fields of STATE and FAULT_INFO (12 section 12.1.1, 12:R173) -/

theorem RingState.code_lt (q : RingState) : q.code.toNat < 8 := by cases q <;> decide

theorem extractLsb_toNat_eq {w : Nat} (x : BitVec w) (i k : Nat) :
    (x.extractLsb' i k).toNat = x.toNat / 2 ^ i % 2 ^ k := by
  rw [BitVec.extractLsb'_toNat, Nat.shiftRight_eq_div_pow]

theorem setWidth_code_toNat (q : RingState) : (q.code.setWidth 3).toNat = q.code.toNat := by
  rw [BitVec.toNat_setWidth, Nat.mod_eq_of_lt q.code_lt]

section
variable (s : State)

/-- STATE as a number: the fields with the weights of their lowest bits. -/
theorem State.stateWord_toNat :
    s.stateWord.toNat = s.cu.state.code.toNat + 2 ^ 3 * (s.ring 0).state.code.toNat +
      2 ^ 6 * (s.ring 1).state.code.toNat + 2 ^ 9 * (s.ring 2).state.code.toNat +
      2 ^ 12 * (s.ring 3).state.code.toNat + 2 ^ 15 * (s.bank 0).seq.code.toNat +
      2 ^ 18 * (s.bank 1).seq.code.toNat + 2 ^ 21 * (s.bank 2).seq.code.toNat +
      2 ^ 24 * (s.bank 3).seq.code.toNat + 2 ^ 27 * s.sm.state.code.toNat := by
  rw [State.stateWord]
  repeat rw [toNat_append_eq_add]
  simp only [setWidth_code_toNat, BitVec.ofNat_eq_ofNat, BitVec.toNat_ofNat]
  omega

theorem State.faultInfoWord_toNat :
    s.faultInfoWord.toNat = s.cu.faultAddr.toNat + 2 ^ 16 * (BitVec.ofNat 4 s.cu.subsequent).toNat +
      2 ^ 20 * s.cu.faultCode.code.toNat := by
  rw [State.faultInfoWord]
  repeat rw [toNat_append_eq_add]
  simp only [BitVec.ofNat_eq_ofNat, BitVec.toNat_ofNat]
  omega

theorem State.stateWord_rings_lt :
    s.cu.state.code.toNat + 2 ^ 3 * (s.ring 0).state.code.toNat + 2 ^ 6 * (s.ring 1).state.code.toNat +
      2 ^ 9 * (s.ring 2).state.code.toNat + 2 ^ 12 * (s.ring 3).state.code.toNat < 2 ^ 15 := by
  have hcontrol := s.cu.state.code.isLt
  have h0 := (s.ring 0).state.code_lt
  have h1 := (s.ring 1).state.code_lt
  have h2 := (s.ring 2).state.code_lt
  have h3 := (s.ring 3).state.code_lt
  omega

theorem State.stateWord_banks_lt :
    (s.bank 0).seq.code.toNat + 2 ^ 3 * (s.bank 1).seq.code.toNat + 2 ^ 6 * (s.bank 2).seq.code.toNat +
      2 ^ 9 * (s.bank 3).seq.code.toNat < 2 ^ 12 := by
  have h0 := (s.bank 0).seq.code.isLt
  have h1 := (s.bank 1).seq.code.isLt
  have h2 := (s.bank 2).seq.code.isLt
  have h3 := (s.bank 3).seq.code.isLt
  omega

/-! A field is what the fields below it leave, modulo its own width. -/

theorem State.stateWord_control : s.stateWord.extractLsb' 0 3 = s.cu.state.code := by
  apply BitVec.eq_of_toNat_eq
  have hcontrol := s.cu.state.code.isLt
  rw [extractLsb_toNat_eq, s.stateWord_toNat]
  omega

theorem State.stateWord_ring (n : Ring) :
    (s.stateWord.extractLsb' (3 + 3 * n.val) 3).toNat = (s.ring n).state.code.toNat := by
  have hcontrol := s.cu.state.code.isLt
  have h0 := (s.ring 0).state.code_lt
  have h1 := (s.ring 1).state.code_lt
  have h2 := (s.ring 2).state.code_lt
  have h3 := (s.ring 3).state.code_lt
  rw [extractLsb_toNat_eq, s.stateWord_toNat]
  match n with
  | 0 => change _ / 2 ^ 3 % 2 ^ 3 = _; omega
  | 1 => change _ / 2 ^ 6 % 2 ^ 3 = _; omega
  | 2 => change _ / 2 ^ 9 % 2 ^ 3 = _; omega
  | 3 => change _ / 2 ^ 12 % 2 ^ 3 = _; omega

theorem State.stateWord_bank (b : Bank) : s.stateWord.extractLsb' (15 + 3 * b.val) 3 = (s.bank b).seq.code := by
  apply BitVec.eq_of_toNat_eq
  have hrings := s.stateWord_rings_lt
  have hb0 := (s.bank 0).seq.code.isLt
  have hb1 := (s.bank 1).seq.code.isLt
  have hb2 := (s.bank 2).seq.code.isLt
  have hb3 := (s.bank 3).seq.code.isLt
  rw [extractLsb_toNat_eq, s.stateWord_toNat]
  match b with
  | 0 => change _ / 2 ^ 15 % 2 ^ 3 = _; omega
  | 1 => change _ / 2 ^ 18 % 2 ^ 3 = _; omega
  | 2 => change _ / 2 ^ 21 % 2 ^ 3 = _; omega
  | 3 => change _ / 2 ^ 24 % 2 ^ 3 = _; omega

theorem State.stateWord_monitor : s.stateWord.extractLsb' 27 2 = s.sm.state.code := by
  apply BitVec.eq_of_toNat_eq
  have hrings := s.stateWord_rings_lt
  have hbanks := s.stateWord_banks_lt
  have hmonitor := s.sm.state.code.isLt
  rw [extractLsb_toNat_eq, s.stateWord_toNat]
  omega

theorem State.stateWord_unused : s.stateWord.extractLsb' 29 3 = 0 := by
  apply BitVec.eq_of_toNat_eq
  have hrings := s.stateWord_rings_lt
  have hbanks := s.stateWord_banks_lt
  have hmonitor := s.sm.state.code.isLt
  rw [extractLsb_toNat_eq, s.stateWord_toNat]
  change _ = 0
  omega

theorem State.faultInfoWord_fields :
    s.faultInfoWord.extractLsb' 0 16 = s.cu.faultAddr ∧
      s.faultInfoWord.extractLsb' 16 4 = BitVec.ofNat 4 s.cu.subsequent ∧
      s.faultInfoWord.extractLsb' 20 3 = s.cu.faultCode.code ∧ s.faultInfoWord.extractLsb' 23 9 = 0 := by
  have haddr := s.cu.faultAddr.isLt
  have hcount := (BitVec.ofNat 4 s.cu.subsequent).isLt
  have hcode := s.cu.faultCode.code.isLt
  refine ⟨BitVec.eq_of_toNat_eq ?_, BitVec.eq_of_toNat_eq ?_, BitVec.eq_of_toNat_eq ?_, BitVec.eq_of_toNat_eq ?_⟩ <;>
    rw [extractLsb_toNat_eq, s.faultInfoWord_toNat]
  · omega
  · omega
  · omega
  · change _ = 0
    omega

end

/-- 12:R171. What a read returns is decided by the word it reaches. -/
theorem State.readAccess_of_word (s : State) {o : BitVec 6} {w : Nat} (h : windowWord o = w) :
    s.readAccess o = s.readWord w := by
  rw [State.readAccess, h]

theorem State.readWord_of_unused (s : State) {w : Nat} (h : w = 5 ∨ 10 ≤ w) : s.readWord w = 0 := by
  unfold State.readWord
  split <;> first | rfl | omega

/-- Settles O52: writes word by word through their commands, reads word by word, and the codes. -/
theorem registerWindowAccesses : Obligations.RegisterWindowAccesses := by
  refine ⟨fun o lanes v s _ => ?_, fun o s => ?_, rfl, rfl, rfl, rfl, rfl⟩
  · rw [← windowWord_eq]
    have hreach {c : Instr} {w : Nat} (hc : windowCommand w v = some c) (hw : windowWord o = w) :
        exec (.registerWriteIgnored o 15 v) s = exec c s :=
      exec_access_of_command rfl (hw ▸ hc) s
    refine ⟨fun hl => ?_, fun hw => exec_access_of_ignored hw lanes v s, fun hw => ?_, hreach rfl, hreach rfl,
      hreach rfl, hreach rfl, hreach rfl, fun hw => ?_, hreach rfl⟩
    · exact exec_access_of_lanes (Bool.eq_false_iff.mpr (mt (allLanes_iff lanes).mp hl)) o v s
    · rw [hreach rfl hw]
      cases v.getLsbD 1 <;> rfl
    · rw [hreach rfl hw, exec_submit_low]
  · rw [← windowWord_eq]
    refine ⟨fun hw => ?_, fun hw => ?_, fun hw => ?_, fun hw => ?_, fun hw => ?_, fun hw => ?_, fun hw => ?_,
      fun hw => ?_, fun hw => ?_, fun hw => ?_⟩
    · exact s.readAccess_of_word hw
    · rw [s.readAccess_of_word hw]
      change (BitVec.ofBool s.cu.enable).setWidth 32 = _
      cases s.cu.enable <;> rfl
    · rw [s.readAccess_of_word hw]
      exact ⟨s.stateWord_control, s.stateWord_ring, s.stateWord_bank, s.stateWord_monitor,
        s.stateWord_unused⟩
    · exact s.readAccess_of_word hw
    · exact s.readAccess_of_word hw
    · exact s.readWord_of_unused hw
    · exact s.readAccess_of_word hw
    · exact s.readAccess_of_word hw
    · exact s.readAccess_of_word hw
    · rw [s.readAccess_of_word hw]
      exact s.faultInfoWord_fields

end Sys2Proof.Machine
end
